-- ==== Sys2Proof/Word.lean ====
section
/-! DEFINITION. The widths of `00_scope.md` rule R5, each as the type of the values that have it. -/

namespace Sys2Proof

/-- `DATA_W` and `STATUS_W`: a received data byte, a command byte, a status code. -/
abbrev Byte := BitVec 8

/-- `ANGLE_W`: the angle operand of MOVE_TO and PULSE_FOR, unsigned (R66). -/
abbrev Angle := BitVec 8

/-- `OCR_W`: a TimerCompareValue, the compare register (R26). -/
abbrev OcrWord := BitVec 16

/-- `COUNT_W`: a count of blinks or a number of ticks, unsigned (R60, R103, R117). -/
abbrev Count := BitVec 32

/-- The width of `SEQ_PC` (R18). -/
abbrev SeqIndex := BitVec 9

/-- `ADDR_W`: the responder's bus address. -/
abbrev BusAddr := BitVec 7

end Sys2Proof
end

