-- ==== Sys2Proof/Machine/Literals.lean ====
section
/-! DEFINITION. The numeric literals of `00_scope.md` rule R5, one name each, at the value the spec carries (U9,
log 19). -/

namespace Sys2Proof.Machine

/-- `N_ANGLES`: the entries of PulseTable. -/
abbrev nAngles : Nat := 180

/-- `ANGLE_MAX`. -/
abbrev angleMax : Nat := 179

/-- `PWM_PERIOD_MS`: the refresh period of the actuation output, in milliseconds (R27, R93, R163). -/
def pwmPeriodMs : Nat := 20

/-- `TICK_MS`. -/
def tickMs : Nat := 16

/-- `CMD_OPEN`. -/
abbrev openCode : Byte := 1

/-- `CMD_CLOSE`. -/
abbrev closeCode : Byte := 2

/-- `CMD_TWITCH`. -/
abbrev twitchCode : Byte := 3

/-- `OPEN_ANGLE`. -/
def openAngle : Angle := 0

/-- `CLOSE_ANGLE`, before the clamp (C5, D24). -/
def closeAngle : Angle := 180

/-- `TWITCH_ANGLE_A`. -/
def twitchAngleA : Angle := 155

/-- `TWITCH_ANGLE_B`. -/
def twitchAngleB : Angle := 179

/-- `OPEN_BLINKS`. -/
def openBlinks : Count := 2

/-- `CLOSE_BLINKS`. -/
def closeBlinks : Count := 20

/-- `TWITCH_BLINKS`. -/
def twitchBlinks : Count := 5

/-- `UNREC_BLINKS`. -/
def unrecBlinks : Count := 100

/-- `BLINK_ON_TICKS`. -/
def blinkOnTicks : Count := 1

/-- `BLINK_OFF_TICKS`. -/
def blinkOffTicks : Count := 1

/-- `SETTLE_TICKS`. -/
def settleTicks : Count := 50

/-- `TWITCH_GAP_TICKS`. -/
def twitchGapTicks : Count := 4

end Sys2Proof.Machine
end

