-- ==== Sys2Proof/Config.lean ====
section
/-! DEFINITION. What one instance of the hardware fixes (`00_scope.md` rules R5, R6), and the free values: what the
outside world chooses (which step comes next, which event, what a reset leaves in the registers of R183). -/

namespace Sys2Proof

/-- The OPEN parameters of R5; those with a value are in Machine/Literals.lean and, the widths, in Word.lean. No rule of the block reads `ownAddr` (D3) or `bitRate` (R206). -/
structure Params where
  ownAddr : BusAddr
  bitRate : Nat
  scSlaAck : Byte
  scDataAck : Byte
  pulseMin : Nat
  pulseStep : Nat
  /-- `PWM_TOP`, "when given" (R6); timing only. -/
  pwmTop : Option Nat
  deriving DecidableEq, Repr

/-- `PULSE_MAX`, derived (R5): the last entry of PulseTable. -/
def Params.pulseMax (p : Params) : Nat := p.pulseMin + Machine.angleMax * p.pulseStep

/-- The constraints of R6. `PULSE_MIN >= 0` and the range of the status codes hold by type. -/
def Params.legal (p : Params) : Bool :=
  p.scSlaAck != p.scDataAck && decide (1 ≤ p.pulseStep) && decide (p.pulseMax < 2 ^ 16) &&
    p.pwmTop.all (fun top => decide (p.pulseMax ≤ top))

/-- Unconstrained seeds of a configuration. `Params.ofFree` maps them onto the legal configurations, all of them
(log 7). The step's bound 366 is the largest with `179 * PULSE_STEP < 2^16`. -/
structure FreeParams where
  ownAddr : BusAddr
  bitRate : Nat
  scSlaAck : Byte
  scDataGap : Fin 255
  stepLessOne : Fin 366
  minSeed : Nat
  pwmSlack : Option Nat
  deriving DecidableEq, Repr, Inhabited

/-- The legal configuration that the seeds stand for. -/
def Params.ofFree (f : FreeParams) : Params where
  ownAddr := f.ownAddr
  bitRate := f.bitRate
  scSlaAck := f.scSlaAck
  scDataAck := f.scSlaAck + BitVec.ofNat 8 (f.scDataGap.val + 1)
  pulseMin := f.minSeed % (2 ^ 16 - Machine.angleMax * (f.stepLessOne.val + 1))
  pulseStep := f.stepLessOne.val + 1
  pwmTop := f.pwmSlack.map fun k =>
    f.minSeed % (2 ^ 16 - Machine.angleMax * (f.stepLessOne.val + 1)) + Machine.angleMax * (f.stepLessOne.val + 1) + k

/-- Free: nothing says which legal configuration this is (log 7). -/
opaque Config.free : FreeParams

/-- The configuration of this instance: some legal one. -/
def Config.params : Params := Params.ofFree Config.free

/-- The example configuration CFG_A of `95_test_vectors.md` section 1 (the spec's own numbers, not the source's). -/
def Params.cfgA : Params where
  ownAddr := 0
  bitRate := 0
  scSlaAck := 0x60
  scDataAck := 0x80
  pulseMin := 1000
  pulseStep := 6
  pwmTop := some 20000

/-- The example configuration CFG_B of `95_test_vectors.md` section 1. -/
def Params.cfgB : Params where
  ownAddr := 0
  bitRate := 0
  scSlaAck := 0x60
  scDataAck := 0x80
  pulseMin := 16
  pulseStep := 1
  pwmTop := some 255

/-- A bus event as the peripheral presents it (R60 format E, R131). -/
structure BusEvent where
  status : Byte
  data : Byte
  deriving DecidableEq, Repr, Inhabited

/-- The values a reset leaves unspecified (R183). -/
structure ResetDraws where
  evtStatus : Byte
  evtData : Byte
  rxData : Byte
  cmdAngle : Angle
  ocr : OcrWord
  pwmActive : OcrWord
  led : Bool
  tglTmp : Bool
  deriving DecidableEq, Repr, Inhabited

/-- Who takes a step: the four agents of R7, bring-up (`boot`, R190) and the reset line (`rst`, R180). -/
inductive Agent where
  | bus
  | isr
  | main
  | pwm
  | boot
  | rst
  deriving DecidableEq, Repr

/-- The step taken next, with what the environment chooses for it: the event delivered (R131), the draws of a reset
(R183). A state stores none of these (R35). -/
inductive Choice where
  | bus (e : BusEvent)
  | isr
  | main
  | pwm
  | boot
  | rst (d : ResetDraws)
  deriving DecidableEq, Repr, Inhabited

/-- Whose step it is. -/
def Choice.agent : Choice → Agent
  | .bus _ => .bus
  | .isr => .isr
  | .main => .main
  | .pwm => .pwm
  | .boot => .boot
  | .rst _ => .rst

/-- Free: the schedule, with every event and every draw in it. "Any enabled step of any agent may be taken next" (R7;
log 3). -/
opaque Config.schedule : Nat → Choice

end Sys2Proof
end

