-- ==== Sys2Proof/Syntax.lean ====
section
/-! DEFINITION. The instructions (the 14 mnemonics of `spec/opcode_table.json`), the four behaviours, the three event
classes, the primitive elements of the sequence store, and the words of the three formats (`30_encoding.md` R60). -/

namespace Sys2Proof

/-- The four behaviours (R61). SEQ_CMD is an `Option Behaviour`: `none` is the spec's `None` (R17). -/
inductive Behaviour where
  | opening
  | closing
  | twitching
  | unrecognized
  deriving DecidableEq, Repr

/-- The class of a status code (R62). -/
inductive EvtClass where
  | slaAck
  | dataAck
  | other
  deriving DecidableEq, Repr

/-- One instruction for each mnemonic of the opcode table. An event carries the parts of its word that its class does
not fix, UNRECOGNIZED carries its code, so that no bit of a word is lost. -/
inductive Instr where
  /-- OPEN, format C (R111). -/
  | cmdOpen
  /-- CLOSE, format C (R112). -/
  | cmdClose
  /-- TWITCH, format C (R113). -/
  | cmdTwitch
  /-- UNRECOGNIZED, format C (R114). -/
  | cmdUnrecognized (code : Byte)
  /-- EVT_SLA_ACK, format E (R136); the data part is latched and read by no rule. -/
  | evtSlaAck (data : Byte)
  /-- EVT_DATA_ACK, format E (R137). -/
  | evtDataAck (data : Byte)
  /-- EVT_OTHER, format E (R138). -/
  | evtOther (status data : Byte)
  /-- PULSE_FOR a, format U (R82). -/
  | pulseFor (a : Angle)
  /-- MOVE_TO a, format U (R90). -/
  | moveTo (a : Angle)
  /-- LED_SET b, format U (R100). -/
  | ledSet (b : Bool)
  /-- LED_TOGGLE, format U (R101). -/
  | ledToggle
  /-- BLINK c, on, off, format U (R103); durations in ticks. -/
  | blink (count on off : Count)
  /-- WAIT n, format U (R117); `n` in ticks. -/
  | wait (n : Count)
  /-- REARM, format U (R145). -/
  | rearm
  deriving DecidableEq, Repr

/-- A primitive micro-operation: an element of the sequence store. "No other micro-operation occurs in a sequence"
(R116), so no other can be written down. -/
inductive Prim where
  | moveTo (a : Angle)
  | ledSet (b : Bool)
  | wait (n : Count)
  deriving DecidableEq, Repr

/-- The instruction that a primitive is. -/
def Prim.instr : Prim → Instr
  | .moveTo a => .moveTo a
  | .ledSet b => .ledSet b
  | .wait n => .wait n

/-- The instruction that a command byte of this behaviour is; `code` is the byte. -/
def Behaviour.instr (code : Byte) : Behaviour → Instr
  | .opening => .cmdOpen
  | .closing => .cmdClose
  | .twitching => .cmdTwitch
  | .unrecognized => .cmdUnrecognized code

/-- The three formats (R60). -/
inductive Format where
  | c
  | e
  | u
  deriving DecidableEq, Repr

/-- A word of one of the formats. Format U has "no bits in any source" (R60): its word is the tag of D18 and the list
of its operands, each as wide as the widest operand (log 9). -/
inductive Raw where
  | command (code : Byte)
  | event (status data : Byte)
  | micro (tag : BitVec 3) (operands : List Count)
  deriving DecidableEq, Repr

/-- A word that comes to the block from outside, in one of the two formats that have bits (R60). -/
inductive InputWord where
  | command (code : Byte)
  | event (e : BusEvent)
  deriving DecidableEq, Repr

/-- The format of a word. -/
def Raw.format : Raw → Format
  | .command _ => .c
  | .event _ _ => .e
  | .micro _ _ => .u

/-- The format the opcode table gives an instruction. -/
def Instr.format : Instr → Format
  | .cmdOpen | .cmdClose | .cmdTwitch | .cmdUnrecognized _ => .c
  | .evtSlaAck _ | .evtDataAck _ | .evtOther _ _ => .e
  | .pulseFor _ | .moveTo _ | .ledSet _ | .ledToggle | .blink _ _ _ | .wait _ | .rearm => .u

end Sys2Proof
end

