-- ==== Sys2Proof/Machine/State.lean ====
section
/-! DEFINITION. The state of the block, exactly the table of `10_state.md` rule R10, and beside it what stands
outside; the state after reset (`70_reset_and_hazards.md` R181 to R184). -/

namespace Sys2Proof.Machine

/-- `BRX_STATE` (R16). -/
inductive BrxState where
  | idle
  | addressMatched
  | dataReceived
  deriving DecidableEq, Repr

/-- An action of the ghost list TRACE (R30). -/
inductive Action where
  | rearm
  | ocrWrite (v : OcrWord)
  | led (b : Bool)
  | wait (n : Count)
  | mainLed (b : Bool)
  | pulse (v : OcrWord)
  deriving DecidableEq, Repr

/-- The block: exactly the entries of R10. Neither the schedule nor a draw nor the configuration is among them (R35). -/
structure Block where
  /-- BRX_STATE, R16. -/
  brxState : BrxState
  /-- ARMED, R20. -/
  armed : Bool
  /-- ACK_EN, R21. -/
  ackEn : Bool
  /-- EVT_VALID, R22. -/
  evtValid : Bool
  /-- EVT_STATUS, R14. -/
  evtStatus : Byte
  /-- EVT_DATA, R14. -/
  evtData : Byte
  /-- ISR_ACTIVE, R23. -/
  isrActive : Bool
  /-- RX_DATA, R12. -/
  rxData : Byte
  /-- SEQ_CMD, R17. -/
  seqCmd : Option Behaviour
  /-- SEQ_PC, R18. -/
  seqPc : SeqIndex
  /-- CMD_ANGLE, R13. -/
  cmdAngle : Angle
  /-- OCR, R26. -/
  ocr : OcrWord
  /-- PWM_ACTIVE, R31. -/
  pwmActive : OcrWord
  /-- LED, R24. -/
  led : Bool
  /-- TGL_PENDING, R25. -/
  tglPending : Bool
  /-- TGL_TMP, R25. -/
  tglTmp : Bool
  /-- TRACE, ghost, R30. -/
  trace : List Action
  /-- EVENT_COUNT, ghost, R30. -/
  eventCount : Nat
  /-- REARM_COUNT, ghost, R30. -/
  rearmCount : Nat
  deriving DecidableEq, Repr

/-- What stands outside the block: the MODEL's own, so that a step is a function. No step of an agent reads or writes
it (`agentStep_setEnv`), and neither the schedule nor an event or draw of it is stored here (R35; log 2). -/
structure Env where
  /-- How many free values have been taken: the next is `Config.schedule` of it. Not time: no rule reads it. -/
  draws : Nat
  /-- A word placed from outside to be run next (log 26): none after reset, and no step places one. -/
  placed : Option InputWord
  deriving DecidableEq, Repr

/-- What a step is a function of: the block, and what stands outside beside it. -/
structure State extends Block where
  /-- Not of the block. -/
  env : Env
  deriving DecidableEq, Repr

/-- There is no fault: "There is no fatal-error class: the component is designed to never halt" (R150). Nothing raises
one, so the type has no constructor (log 23). -/
inductive Fault where
  deriving DecidableEq, Repr

/-- Why something is refused. No meaning of an instruction and no step answers with one of them. -/
inductive Refusal where
  /-- An instruction without a meaning yet; raised by an arm of `exec` only. Safe. -/
  | notModelled (mnemonic : String)
  /-- A configuration that breaks R6, refused before any step (R155, U13); raised by `checkParams`. Safe. -/
  | illegalConfiguration
  /-- A duration that is not a multiple of 16 ms (R67, U12); raised by `ticksOfMs`. Safe. -/
  | offTickGrid
  deriving DecidableEq, Repr

/-- The state after reset for one choice of what R183 leaves unspecified: R181, R182, R184. -/
def State.resetWith (d : ResetDraws) (env : Env) : State where
  brxState := .idle
  armed := false
  ackEn := false
  evtValid := false
  evtStatus := d.evtStatus
  evtData := d.evtData
  isrActive := false
  rxData := d.rxData
  seqCmd := none
  seqPc := 0
  cmdAngle := d.cmdAngle
  ocr := d.ocr
  pwmActive := d.pwmActive
  led := d.led
  tglPending := false
  tglTmp := d.tglTmp
  trace := []
  eventCount := 0
  rearmCount := 0
  env := env

/-- DESIGN CHOICE, unsafe (log 1): the spec gives these registers no reset value (R183); `State.reset` names zeros.
Statements about reset are made for every draw instead. -/
def ResetDraws.zero : ResetDraws where
  evtStatus := 0
  evtData := 0
  rxData := 0
  cmdAngle := 0
  ocr := 0
  pwmActive := 0
  led := false
  tglTmp := false

/-- No free value taken, no word placed. -/
def Env.empty : Env := ⟨0, none⟩

/-- The machine right after reset, before boot (R180 to R184). -/
def State.reset : State := State.resetWith ResetDraws.zero Env.empty

end Sys2Proof.Machine
end

