-- ==== Sys2Proof/Machine/Operands.lean ====
section
/-! DEFINITION. Operand forms: the clamp of an angle (`40_pulse_mapper.md` R80), milliseconds to ticks
(`30_encoding.md` R67). Every other operand is used as it stands (R60, R65, R66). -/

namespace Sys2Proof.Machine

/-- `clamp(a) = min(a, 179)`, an index of the table space (R80, R41). -/
def clamp (a : Angle) : Fin nAngles := ⟨min a.toNat angleMax, by unfold angleMax nAngles; omega⟩

/-- The clamped angle as CMD_ANGLE holds it (R13). -/
def clampedAngle (a : Angle) : Angle := BitVec.ofNat 8 (clamp a).val

/-- Milliseconds to ticks of 16 ms; any other duration "has no encoding; a model refuses it" (R67). -/
def ticksOfMs (ms : Count) : Except Refusal Count :=
  if ms.toNat % tickMs = 0 then .ok (BitVec.ofNat 32 (ms.toNat / tickMs)) else .error .offTickGrid

/-- What `n` ticks stand for at the least, in milliseconds (R8, R115): informative, read by no step. -/
def leastMs (n : Count) : Nat := n.toNat * tickMs

/-- The source's form `blink(count, on_ms, off_ms)` as an instruction (R67, R103). -/
def blinkOfMs (count onMs offMs : Count) : Except Refusal Instr :=
  match ticksOfMs onMs, ticksOfMs offMs with
  | .ok on, .ok off => .ok (.blink count on off)
  | .error r, _ => .error r
  | _, .error r => .error r

end Sys2Proof.Machine
end

