-- ==== Sys2Proof/WellFormed.lean ====
section
/-! DEFINITION. Which terms of `Instr` are instructions: an UNRECOGNIZED carries none of the three recognized codes
(`30_encoding.md` R61), an EVT_OTHER none of the two named status codes (R62). All else holds by type. -/

namespace Sys2Proof

/-- Well-formed under a configuration. -/
def Instr.wfWith (p : Params) : Instr → Bool
  | .cmdUnrecognized code => code != Machine.openCode && code != Machine.closeCode && code != Machine.twitchCode
  | .evtOther status _ => status != p.scSlaAck && status != p.scDataAck
  | .cmdOpen | .cmdClose | .cmdTwitch | .evtSlaAck _ | .evtDataAck _ | .pulseFor _ | .moveTo _ | .ledSet _
  | .ledToggle | .blink _ _ _ | .wait _ | .rearm => true

/-- Well-formed in this instance of the hardware. -/
def Instr.wf (i : Instr) : Bool := i.wfWith Config.params

end Sys2Proof
end

