-- ==== Sys2Proof/Decode.lean ====
section
/-! DEFINITION. Decoding, total on every word of the three formats (`30_encoding.md`), and the encoder, written from
the same tables. -/

namespace Sys2Proof

/-- `decode_cmd` (R61): all 8 bits are compared. -/
def decodeCmd (b : Byte) : Behaviour :=
  if b = Machine.openCode then .opening
  else if b = Machine.closeCode then .closing
  else if b = Machine.twitchCode then .twitching
  else .unrecognized

/-- `classify_evt` (R62). -/
def classifyEvt (p : Params) (s : Byte) : EvtClass :=
  if s = p.scSlaAck then .slaAck else if s = p.scDataAck then .dataAck else .other

/-- A format C word. Every byte is a command (R68). -/
def decodeCommand (b : Byte) : Instr := (decodeCmd b).instr b

/-- A format E word. Every pair is an event (R68). -/
def decodeEvent (p : Params) (status data : Byte) : Instr :=
  match classifyEvt p status with
  | .slaAck => .evtSlaAck data
  | .dataAck => .evtDataAck data
  | .other => .evtOther status data

/-- Why a format U word is no micro-operation. -/
inductive DecodeError where
  /-- Tag 7 names nothing (R60, D18). -/
  | unknownTag
  /-- The number of operands is not the tag's. -/
  | operandCount
  /-- An operand does not fit its width: an angle over 8 bits, an indicator value over 1 bit. -/
  | operandRange
  deriving DecidableEq, Repr

/-- An angle operand: 8 bits. -/
def angleOperand (v : Count) : Except DecodeError Angle :=
  if v.toNat < 256 then .ok (v.setWidth 8) else .error .operandRange

/-- An indicator operand: 1 bit. -/
def bitOperand (v : Count) : Except DecodeError Bool :=
  if v = 0 then .ok false else if v = 1 then .ok true else .error .operandRange

/-- A format U word: the tag table of R60. -/
def decodeMicro (tag : BitVec 3) (operands : List Count) : Except DecodeError Instr :=
  match tag.toNat, operands with
  | 0, [a] => (angleOperand a).map .pulseFor
  | 1, [a] => (angleOperand a).map .moveTo
  | 2, [b] => (bitOperand b).map .ledSet
  | 3, [] => .ok .ledToggle
  | 4, [c, on, off] => .ok (.blink c on off)
  | 5, [n] => .ok (.wait n)
  | 6, [] => .ok .rearm
  | 7, _ => .error .unknownTag
  | _, _ => .error .operandCount

/-- Decoding under a configuration. -/
def decodeWith (p : Params) : Raw → Except DecodeError Instr
  | .command code => .ok (decodeCommand code)
  | .event status data => .ok (decodeEvent p status data)
  | .micro tag operands => decodeMicro tag operands

/-- Decoding in this instance of the hardware. -/
def decode (r : Raw) : Except DecodeError Instr := decodeWith Config.params r

/-- Every word from outside is an instruction (R68). -/
def decodeInput : InputWord → Instr
  | .command code => decodeCommand code
  | .event e => decodeEvent Config.params e.status e.data

/-- An indicator operand as a word. -/
def bitWord (b : Bool) : Count := if b then 1 else 0

/-- The word of an instruction under a configuration. -/
def encodeWith (p : Params) : Instr → Raw
  | .cmdOpen => .command Machine.openCode
  | .cmdClose => .command Machine.closeCode
  | .cmdTwitch => .command Machine.twitchCode
  | .cmdUnrecognized code => .command code
  | .evtSlaAck data => .event p.scSlaAck data
  | .evtDataAck data => .event p.scDataAck data
  | .evtOther status data => .event status data
  | .pulseFor a => .micro 0 [a.setWidth 32]
  | .moveTo a => .micro 1 [a.setWidth 32]
  | .ledSet b => .micro 2 [bitWord b]
  | .ledToggle => .micro 3 []
  | .blink c on off => .micro 4 [c, on, off]
  | .wait n => .micro 5 [n]
  | .rearm => .micro 6 []

/-- The word of an instruction in this instance of the hardware. -/
def encode (i : Instr) : Raw := encodeWith Config.params i

/-- The opcode table's numbering. The formats overlap in 8 bits and are told apart by where a word arrives, so the
length says which is meant (log 8): one byte is a command byte, two bytes are an event with the status first. A format
U word has no bits in any source and none is read here. -/
def decodeTableWord (nbits w : Nat) : Option Instr :=
  if nbits = 8 then (decode (.command (BitVec.ofNat 8 w))).toOption
  else if nbits = 16 then (decode (.event (BitVec.ofNat 8 w) (BitVec.ofNat 8 (w / 256)))).toOption
  else none

end Sys2Proof
end

