-- ==== Sys2Proof/Machine/Flags.lean ====
section
/-! DEFINITION. The one-bit state (`10_state.md` R19 to R25) through named operations. There are no arithmetic flags:
"no operation of the block produces a carry, overflow, zero or sign flag" (R19). -/

namespace Sys2Proof.Machine

/-- The peripheral raises an event: EVT_VALID set, ARMED cleared (R131). -/
def raiseEvent (s : State) : State := { s with evtValid := true, armed := false }

/-- The re-arm writes ARMED and ACK_EN together and clears the pending event (R48, R135, R145). -/
def rearmBits (s : State) : State := { s with armed := true, ackEn := true, evtValid := false }

/-- Boot arms the responder with acknowledgment enabled (R190). -/
def armAtBoot (s : State) : State := { s with armed := true, ackEn := true }

/-- ISR_ACTIVE (R23). -/
def setIsrActive (b : Bool) (s : State) : State := { s with isrActive := b }

/-- MAIN reads LED into TGL_TMP and holds the toggle (R102). -/
def holdToggle (s : State) : State := { s with tglTmp := s.led, tglPending := true }

/-- MAIN's toggle is done (R102). -/
def clearToggle (s : State) : State := { s with tglPending := false }

end Sys2Proof.Machine
end

