-- ==== Sys2Proof/Machine/Ops.lean ====
section
/-! DEFINITION. The named operations over the state: the I/O points (`20_memory.md` R45 to R48), the event latch
(R131), taking the bus interrupt (R132, R159) and returning from it (R135, R160), reset (R180) and boot (R190). -/

namespace Sys2Proof.Machine

/-- `emit A` (`00_scope.md` section 5.2). -/
def emit (a : Action) (s : State) : State := { s with trace := s.trace ++ [a] }

/-- `IoWrite(OCR, v)`, one indivisible write of all 16 bits (R45). -/
def ioWriteOcr (v : OcrWord) (s : State) : State := { s with ocr := v }

/-- `IoWrite(LED, b)`, indivisible (R46). -/
def ioWriteLed (b : Bool) (s : State) : State := { s with led := b }

/-- CMD_ANGLE (R13). -/
def setCmdAngle (a : Angle) (s : State) : State := { s with cmdAngle := a }

/-- The generator takes the compare value for the period now starting (R93). -/
def latchPulse (s : State) : State := { s with pwmActive := s.ocr }

/-- EVT_STATUS and EVT_DATA (R131). -/
def latchEvent (e : BusEvent) (s : State) : State := { s with evtStatus := e.status, evtData := e.data }

/-- BRX_STATE; only ISR_ENTER writes it (R16). -/
def setBrxState (b : BrxState) (s : State) : State := { s with brxState := b }

/-- RX_DATA; only the dispatching path writes it (R12). -/
def setRxData (b : Byte) (s : State) : State := { s with rxData := b }

/-- `SEQ_CMD <- c ; SEQ_PC <- 0` (R132, R135). -/
def loadSequence (c : Option Behaviour) (s : State) : State := { s with seqCmd := c, seqPc := 0 }

/-- SEQ_PC. -/
def setSeqPc (n : SeqIndex) (s : State) : State := { s with seqPc := n }

/-- `SEQ_PC <- SEQ_PC + 1` (R18, R134). -/
def advanceSeqPc (s : State) : State := setSeqPc (s.seqPc + 1) s

/-- EVENT_COUNT counts ISR_ENTER steps (R30). -/
def countEvent (s : State) : State := { s with eventCount := s.eventCount + 1 }

/-- REARM_COUNT counts ISR_EXIT steps (R30). -/
def countRearm (s : State) : State := { s with rearmCount := s.rearmCount + 1 }

/-- What stands outside. -/
def setEnv (e : Env) (s : State) : State := { s with env := e }

/-- One more free value taken. -/
def takeDraw (s : State) : State := setEnv { s.env with draws := s.env.draws + 1 } s

/-- The slot for a word from outside. -/
def setPlaced (w : Option InputWord) (s : State) : State := setEnv { s.env with placed := w } s

/-- `EVT_DELIVER(s, d)` after its `require` (R131). -/
def evtDeliver (e : BusEvent) (s : State) : State := raiseEvent (latchEvent e s)

/-- TAKING THE INTERRUPT: `ISR_ENTER` after its `require` (R132). Nothing is saved and no bank is switched (R159). -/
def isrEnter (p : Params) (s : State) : State :=
  let s := countEvent (setIsrActive true s)
  match classifyEvt p s.evtStatus, s.brxState with
  | .slaAck, _ => loadSequence none (setBrxState .addressMatched s)
  | .dataAck, .addressMatched =>
    loadSequence (some (decodeCmd s.evtData)) (setRxData s.evtData (setBrxState .dataReceived s))
  | .dataAck, .idle | .dataAck, .dataReceived | .other, _ => loadSequence none (setBrxState .idle s)

/-- The re-arm: "the first four lines of ISR_EXIT" (R145). -/
def rearmOp (s : State) : State := emit .rearm (rearmBits s)

/-- RETURNING FROM THE INTERRUPT: the rest of `ISR_EXIT` (R135, R160). -/
def isrReturn (s : State) : State := setIsrActive false (loadSequence none (countRearm s))

/-- `ISR_EXIT` after its `require`: the re-arm, then the return (R135). -/
def isrExit (s : State) : State := isrReturn (rearmOp s)

/-- Boot: arms last, "no `Rearm` in `TRACE`" (R190, R191). -/
def bootOp (s : State) : State := armAtBoot s

/-- Reset in any state: every entry of R10 at the value of R181 to R184, the unspecified ones at a draw. What
stands outside is not reset (log 24). -/
def resetOp (d : ResetDraws) (s : State) : State := State.resetWith d s.env

end Sys2Proof.Machine
end

