-- ==== Sys2Proof/Machine/PulseMapper.lean ====
section
/-! DEFINITION. PulseMapper (`40_pulse_mapper.md`): the table ROM and PULSE_FOR. -/

namespace Sys2Proof.Machine

/-- `TblRead(i) = PULSE_MIN + i * PULSE_STEP` (R41). -/
def tblRead (p : Params) (i : Fin nAngles) : OcrWord := BitVec.ofNat 16 (p.pulseMin + i.val * p.pulseStep)

/-- `pulse_for(a) = TblRead(clamp(a))` (R81). -/
def pulseFor (p : Params) (a : Angle) : OcrWord := tblRead p (clamp a)

/-- PULSE_FOR as an operation on the machine: the value it returns, and the state, of which it writes nothing (R82). -/
def pulseForOp (p : Params) (a : Angle) (s : State) : OcrWord × State := (pulseFor p a, s)

/-- PULSE_FOR a (R82): the value returned goes to the operation that asked for it (MOVE_TO); no state holds it. -/
def execPulseFor (a : Angle) (s : State) : Host.Outcome State Fault Refusal :=
  .next (pulseForOp Config.params a s).2

end Sys2Proof.Machine
end

