-- ==== Sys2Proof/Machine/ActuatorDriver.lean ====
section
/-! DEFINITION. ActuatorDriver (`41_actuator_driver.md`): MOVE_TO, and the PWM generator's step. -/

namespace Sys2Proof.Machine

/-- MOVE_TO's effect (R90). -/
def moveTo (p : Params) (a : Angle) (s : State) : State :=
  let r := pulseForOp p a s
  emit (.ocrWrite r.1) (ioWriteOcr r.1 (setCmdAngle (clampedAngle a) r.2))

/-- MOVE_TO a (R90). -/
def execMoveTo (a : Angle) (s : State) : Host.Outcome State Fault Refusal := .next (moveTo Config.params a s)

/-- `PWM_PERIOD`, enabled in every state (R93). -/
def pwmPeriod (s : State) : State := emit (.pulse s.ocr) (latchPulse s)

end Sys2Proof.Machine
end

