-- ==== Sys2Proof/Machine/IndicatorDriver.lean ====
section
/-! DEFINITION. IndicatorDriver (`42_indicator_driver.md`): LED_SET, LED_TOGGLE and the main context's two steps.
BLINK, a pseudo-operation over LED_SET and WAIT, is in Sequence.lean. -/

namespace Sys2Proof.Machine

/-- LED_SET's effect (R100). -/
def ledSet (b : Bool) (s : State) : State := emit (.led b) (ioWriteLed b s)

/-- LED_SET b (R100). -/
def execLedSet (b : Bool) (s : State) : Host.Outcome State Fault Refusal := .next (ledSet b s)

/-- LED_TOGGLE's indivisible form, untraced (R101). -/
def ledToggle (s : State) : State := ioWriteLed (!s.led) s

/-- LED_TOGGLE (R101). The main context, its only user, takes it in the two steps below (R102; log 20). -/
def execLedToggle (s : State) : Host.Outcome State Fault Refusal := .next (ledToggle s)

/-- The `require` of `MAIN_TGL_READ` (R102). -/
def canMainRead (s : State) : Bool := !s.isrActive && !s.tglPending

/-- `MAIN_TGL_READ` after its `require` (R102). -/
def mainTglRead (s : State) : State := holdToggle s

/-- The `require` of `MAIN_TGL_WRITE` (R102). -/
def canMainWrite (s : State) : Bool := !s.isrActive && s.tglPending

/-- `MAIN_TGL_WRITE` after its `require`: the inverse of the value read, stale or not (R102). -/
def mainTglWrite (s : State) : State :=
  emit (.mainLed (!s.tglTmp)) (clearToggle (ioWriteLed (!s.tglTmp) s))

end Sys2Proof.Machine
end

