-- ==== Sys2Proof/Machine/Sequence.lean ====
section
/-! DEFINITION. WAIT, the effect of a primitive element, BLINK's expansion, the sequence store and how a list of
elements runs (`43_command_dispatcher.md` R110, R115 to R118; `42_indicator_driver.md` R103). -/

namespace Sys2Proof.Machine

/-- WAIT's effect: one call of the delay service, which always returns; "no other state changes" (R117, R8). -/
def waitTicks (n : Count) (s : State) : State := emit (.wait n) s

/-- WAIT n (R117). -/
def execWait (n : Count) (s : State) : Host.Outcome State Fault Refusal := .next (waitTicks n s)

/-- `exec(u)` for an element of a sequence (R116). -/
def primEffect (p : Params) (u : Prim) (s : State) : State :=
  match u with
  | .moveTo a => moveTo p a s
  | .ledSet b => ledSet b s
  | .wait n => waitTicks n s

/-- A list of elements in order, nothing skipped or repeated (R118). -/
def runPrims (p : Params) (us : List Prim) (s : State) : State := us.foldl (fun t u => primEffect p u t) s

/-- One on/off cycle of a blink (R103). -/
def blinkCycle (on off : Count) : List Prim := [.ledSet true, .wait on, .ledSet false, .wait off]

/-- `blink_seq(c, on, off)` (R103). -/
def blinkSeq (c on off : Count) : List Prim := (List.replicate c.toNat (blinkCycle on off)).flatten

/-- BLINK c, on, off (R103): its meaning is its expansion. -/
def execBlink (c on off : Count) (s : State) : Host.Outcome State Fault Refusal :=
  .next (runPrims Config.params (blinkSeq c on off) s)

/-- `seq(c)` (R110). -/
def seq : Option Behaviour → List Prim
  | none => []
  | some .opening => [.moveTo openAngle] ++ blinkSeq openBlinks blinkOnTicks blinkOffTicks ++ [.wait settleTicks]
  | some .closing => [.moveTo closeAngle] ++ blinkSeq closeBlinks blinkOnTicks blinkOffTicks ++ [.wait settleTicks]
  | some .twitching =>
    [.moveTo twitchAngleA, .wait twitchGapTicks, .moveTo twitchAngleB] ++
      blinkSeq twitchBlinks blinkOnTicks blinkOffTicks
  | some .unrecognized => blinkSeq unrecBlinks blinkOnTicks blinkOffTicks ++ [.wait settleTicks]

/-- `len(seq(SEQ_CMD))`. -/
def seqLen (s : State) : Nat := (seq s.seqCmd).length

/-- The sequence store read at (SEQ_CMD, SEQ_PC); none at or past the sequence's end (R44). -/
def seqFetch (s : State) : Option Prim := (seq s.seqCmd)[s.seqPc.toNat]?

end Sys2Proof.Machine
end

