-- ==== Sys2Proof/Machine/CommandDispatcher.lean ====
section
/-! DEFINITION. CommandDispatcher (`43_command_dispatcher.md`): what each command does, from the first element of its
sequence to the last. In the machine a dispatch is stepped element by element, with PWM periods free to fall between
(R134, R120); these are its whole effect (log 6). -/

namespace Sys2Proof.Machine

/-- `dispatch(c)`: "runs `seq(c)` from element 0 to its last element" (R118). -/
def dispatch (p : Params) (c : Behaviour) (s : State) : State := runPrims p (seq (some c)) s

/-- OPEN (R111). -/
def execOpen (s : State) : Host.Outcome State Fault Refusal := .next (dispatch Config.params .opening s)

/-- CLOSE (R112). -/
def execClose (s : State) : Host.Outcome State Fault Refusal := .next (dispatch Config.params .closing s)

/-- TWITCH (R113). -/
def execTwitch (s : State) : Host.Outcome State Fault Refusal := .next (dispatch Config.params .twitching s)

/-- UNRECOGNIZED (R114): "does not depend on which unrecognized value was sent". -/
def execUnrecognized (_code : Byte) (s : State) : Host.Outcome State Fault Refusal :=
  .next (dispatch Config.params .unrecognized s)

end Sys2Proof.Machine
end

