-- ==== Sys2Proof/Machine/BusReceiver.lean ====
section
/-! DEFINITION. BusReceiver (`44_bus_receiver.md`): what each bus event does, from its delivery to the re-arm, and
REARM. In the machine a handler runs in small steps (R131 to R135); these are its whole effect (log 6). -/

namespace Sys2Proof.Machine

/-- An event can be delivered and its handler start: `ARMED = 1` (R131) and `ISR_ACTIVE = 0` (R132). -/
def canHandle (s : State) : Bool := s.armed && !s.isrActive

/-- The loaded sequence from first to last element: the `ISR_STEP`s of one handler (R134). -/
def runSequence (p : Params) (s : State) : State :=
  setSeqPc (BitVec.ofNat 9 (seqLen s)) (runPrims p (seq s.seqCmd) s)

/-- One event: `EVT_DELIVER`, `ISR_ENTER`, the `ISR_STEP`s, `ISR_EXIT`. Where it cannot be delivered the peripheral
holds it and the block's state stays (R131, D7; log 4). -/
def handleEvent (p : Params) (e : BusEvent) (s : State) : State :=
  if canHandle s then isrExit (runSequence p (isrEnter p (evtDeliver e s))) else s

/-- EVT_SLA_ACK (R136). -/
def execEvtSlaAck (data : Byte) (s : State) : Host.Outcome State Fault Refusal :=
  .next (handleEvent Config.params ⟨Config.params.scSlaAck, data⟩ s)

/-- EVT_DATA_ACK d (R137, R139). -/
def execEvtDataAck (data : Byte) (s : State) : Host.Outcome State Fault Refusal :=
  .next (handleEvent Config.params ⟨Config.params.scDataAck, data⟩ s)

/-- EVT_OTHER (R138). -/
def execEvtOther (status data : Byte) (s : State) : Host.Outcome State Fault Refusal :=
  .next (handleEvent Config.params ⟨status, data⟩ s)

/-- REARM (R145). -/
def execRearm (s : State) : Host.Outcome State Fault Refusal := .next (rearmOp s)

end Sys2Proof.Machine
end

