-- ==== Sys2Proof/Machine/Dispatch.lean ====
section
/-! DEFINITION. One arm per instruction, each a direct call of its meaning. -/

namespace Sys2Proof.Machine

def exec (i : Instr) (s : State) : Host.Outcome State Fault Refusal :=
  match i with
  | .cmdOpen => Sys2Proof.Machine.execOpen s
  | .cmdClose => Sys2Proof.Machine.execClose s
  | .cmdTwitch => Sys2Proof.Machine.execTwitch s
  | .cmdUnrecognized code => Sys2Proof.Machine.execUnrecognized code s
  | .evtSlaAck data => Sys2Proof.Machine.execEvtSlaAck data s
  | .evtDataAck data => Sys2Proof.Machine.execEvtDataAck data s
  | .evtOther status data => Sys2Proof.Machine.execEvtOther status data s
  | .pulseFor a => Sys2Proof.Machine.execPulseFor a s
  | .moveTo a => Sys2Proof.Machine.execMoveTo a s
  | .ledSet b => Sys2Proof.Machine.execLedSet b s
  | .ledToggle => Sys2Proof.Machine.execLedToggle s
  | .blink c on off => Sys2Proof.Machine.execBlink c on off s
  | .wait n => Sys2Proof.Machine.execWait n s
  | .rearm => Sys2Proof.Machine.execRearm s

end Sys2Proof.Machine
end

