-- ==== Sys2Proof/Machine/Agents.lean ====
section
/-! DEFINITION. The agents (`00_scope.md` R7): the step each agent takes, and when it is enabled. A step
whose `require` fails "does not exist in that state": a choice that names it takes none (log 4). -/

namespace Sys2Proof.Machine

/-- Goes on from a next state. -/
def andThen (o : Host.Outcome State Fault Refusal) (f : State → State) : Host.Outcome State Fault Refusal :=
  match o with
  | .next s => .next (f s)
  | .fault r => .fault r
  | .refused r => .refused r

/-- BUS: `EVT_DELIVER`, required `ARMED = 1`; un-armed, the event stays with the peripheral (R131). -/
def busStep (e : BusEvent) (s : State) : Host.Outcome State Fault Refusal :=
  if s.armed then .next (evtDeliver e s) else .next s

/-- ISR: `ISR_ENTER` (R132), `ISR_STEP` (R134), which runs the element fetched from the sequence store, or
`ISR_EXIT` (R135), which runs REARM and returns. -/
def isrStep (s : State) : Host.Outcome State Fault Refusal :=
  if s.isrActive then
    match seqFetch s with
    | some u => andThen (exec u.instr s) advanceSeqPc
    | none => if s.seqPc.toNat = seqLen s then andThen (exec .rearm s) isrReturn else .next s
  else if s.evtValid then .next (isrEnter Config.params s)
  else .next s

/-- MAIN: `MAIN_TGL_READ` or `MAIN_TGL_WRITE` (R102); enabled before boot too (V-R3 of `95_test_vectors.md`). -/
def mainStep (s : State) : Host.Outcome State Fault Refusal :=
  if canMainRead s then .next (mainTglRead s)
  else if canMainWrite s then .next (mainTglWrite s)
  else .next s

/-- PWM: `PWM_PERIOD`, "enabled in every state" (R93), before boot too (V-R3). -/
def pwmStep (s : State) : Host.Outcome State Fault Refusal := .next (pwmPeriod s)

/-- Bring-up: boot, once after a reset; `ACK_EN` is 0 only before it (R21, R190). DESIGN CHOICE (log 10): it may come
after any number of MAIN and PWM steps; with none between, it leads to the launch state of R185. -/
def bootStep (s : State) : Host.Outcome State Fault Refusal := if s.ackEn then .next s else .next (bootOp s)

/-- The reset line, in any state (R180), with a draw of what R183 leaves unspecified. -/
def rstStep (d : ResetDraws) (s : State) : Host.Outcome State Fault Refusal := .next (resetOp d s)

/-- The step named by a choice: the machine of R7 as R35 has it, the schedule, the event and the draws arguments that
nothing stores. -/
def agentStep (c : Choice) (s : State) : Host.Outcome State Fault Refusal :=
  match c with
  | .bus e => busStep e s
  | .isr => isrStep s
  | .main => mainStep s
  | .pwm => pwmStep s
  | .boot => bootStep s
  | .rst d => rstStep d s

/-- The agent has a step in this state: the `require`s of R102, R131, R132, R134, R135, and those of boot and reset. -/
def enabled (a : Agent) (s : State) : Bool :=
  match a with
  | .bus => s.armed
  | .isr => if s.isrActive then decide (s.seqPc.toNat ≤ seqLen s) else s.evtValid
  | .main => !s.isrActive
  | .pwm => true
  | .boot => !s.ackEn
  | .rst => true

/-- An event for the responder armed and idle, so that it is delivered (log 26). -/
def placeEvent (e : BusEvent) (s : State) : State :=
  setPlaced (some (.event e)) { s with armed := true, isrActive := false }

end Sys2Proof.Machine
end

