-- ==== Sys2Proof/Machine/Step.lean ====
section
/-! DEFINITION. One step of the machine: an agent, freely chosen, takes its step. -/

namespace Sys2Proof.Machine

/-- One step of the interleaving (`20_memory.md` R52), the agent and its inputs free (R7; log 3); or, where a word has
been placed from outside, that word's instruction (logs 5, 26). -/
def step (s : State) : Host.Outcome State Fault Refusal :=
  match s.env.placed with
  | some w => exec (decodeInput w) (setPlaced none s)
  | none => agentStep (Config.schedule s.env.draws) (takeDraw s)

/-- `s` with the instruction of the opcode table's numbering placed so that the very next step runs it (logs 8, 26). -/
def State.withFetchWord (s : State) (nbits w : Nat) : State :=
  if nbits = 8 then setPlaced (some (.command (BitVec.ofNat 8 w))) s
  else if nbits = 16 then placeEvent ⟨BitVec.ofNat 8 w, BitVec.ofNat 8 (w / 256)⟩ s
  else s

end Sys2Proof.Machine
end

