-- ==== Sys2Proof/Machine/Build.lean ====
section
/-! DEFINITION. What happens at build time, outside the hardware: a configuration is checked (`00_scope.md` R6,
`60_exceptions.md` R155) and a table step is derived from a nominal pair (`20_memory.md` R43). -/

namespace Sys2Proof.Machine

/-- "A configuration that breaks a constraint is refused by the model" (R6). -/
def checkParams (p : Params) : Except Refusal Params :=
  if p.legal then .ok p else .error .illegalConfiguration

/-- `PULSE_STEP = round((max_pulse - min_pulse) / 179)` (R43); no tie can arise (R84). -/
def stepOfNominal (minPulse maxPulse : Nat) : Nat := (2 * (maxPulse - minPulse) + angleMax) / (2 * angleMax)

/-- The configuration of a nominal pair (R43), the other parameters as given. -/
def nominalParams (p : Params) (minPulse maxPulse : Nat) : Params :=
  { p with pulseMin := minPulse, pulseStep := stepOfNominal minPulse maxPulse }

end Sys2Proof.Machine
end

