-- ==== Sys2Proof/Machine/Ports.lean ====
section
/-! DEFINITION. The outputs of `10_state.md` R33 as functions of state and of the actions of TRACE, and the actuation
line, which the timer peripheral drives (R34, `41_actuator_driver.md` R93). The inputs are what a `Choice` carries. -/

namespace Sys2Proof.Machine

/-- `ack_en`, a level (R33). -/
def ackEnPort (s : State) : Bool := s.ackEn

/-- `led`, "follows LED at all times" (R24); 1 is on, the electrical level is in no source (N9). -/
def ledPort (s : State) : Bool := s.led

/-- The actions that the steps between two states emitted, the earlier state first. -/
def actionsBetween (s t : State) : List Action := t.trace.drop s.trace.length

/-- `rearm`: one pulse per `Rearm` (R33). -/
def rearmPulses (s t : State) : Nat := (actionsBetween s t).count .rearm

/-- `ocr_we` with `ocr_wdata`: one write per `OcrWrite` (R33). -/
def ocrWrites (s t : State) : List OcrWord :=
  (actionsBetween s t).filterMap fun
    | .ocrWrite v => some v
    | .rearm | .led _ | .wait _ | .mainLed _ | .pulse _ => none

/-- `dly_req` with `dly_ticks`: one request per `Wait` (R33). -/
def delayRequests (s t : State) : List Count :=
  (actionsBetween s t).filterMap fun
    | .wait n => some n
    | .rearm | .ocrWrite _ | .led _ | .mainLed _ | .pulse _ => none

/-- The part of the running period for which the actuation line is high, `PWM_ACTIVE / PWM_TOP`, where PWM_TOP is
given (R93; log 15). DESIGN CHOICE, unsafe (log 29): above PWM_TOP, which a draw of R183 can be and no table entry is
(R6), no source says what the line does (N8); the quotient then stands as R93 writes it, unclamped, over 1. -/
def actuationDuty (p : Params) (s : State) : Option (Nat × Nat) := p.pwmTop.map fun top => (s.pwmActive.toNat, top)

/-- The high part of the running period in milliseconds, a numerator over PWM_TOP: `PWM_ACTIVE / PWM_TOP` of
`PWM_PERIOD_MS` (R93), above PWM_TOP as `actuationDuty` has it (log 29). Informative: read by no step (R8). -/
def actuationHighMs (p : Params) (s : State) : Option (Nat × Nat) :=
  (actuationDuty p s).map fun d => (d.1 * pwmPeriodMs, d.2)

end Sys2Proof.Machine
end

