-- ==== Sys2Proof/Safety.lean ====
section
/-! DEFINITION. What claims are stated in: the launch state, the invariants of `10_state.md` R32 and those that tie
the outputs to TRACE, the traces the commands leave, and when two states look alike. -/

namespace Sys2Proof.Machine

/-- The launch state (R185): reset, then boot, for one draw of R183. -/
def State.launchWith (d : ResetDraws) (env : Env) : State := bootOp (State.resetWith d env)

/-- What happened is an `OcrWrite`. -/
def Action.isOcrWrite : Action → Bool
  | .ocrWrite _ => true
  | .rearm | .led _ | .wait _ | .mainLed _ | .pulse _ => false

/-- R32, in a form that holds from reset on: before boot (`ACK_EN = 0`) nothing is armed, pending or running (log 28). -/
structure HandshakeInv (s : State) : Prop where
  /-- Before boot the block is inert (R182). -/
  inert : s.ackEn = false → s.armed = false ∧ s.evtValid = false ∧ s.isrActive = false
  /-- (a): `ARMED = 1` if and only if `EVT_VALID = 0`; (f) is its hypothesis. -/
  armedIff : s.ackEn = true → (s.armed = true ↔ s.evtValid = false)
  /-- (b) -/
  activePending : s.isrActive = true → s.evtValid = true
  /-- (c) -/
  quiet : s.isrActive = false → s.seqCmd = none ∧ s.seqPc = 0
  /-- (d) -/
  inSequence : s.seqPc.toNat ≤ seqLen s
  /-- (e) -/
  counts : s.eventCount = s.rearmCount + (if s.isrActive then 1 else 0)
  /-- (g): "once a MOVE_TO has run". -/
  angleInRange : s.trace.any Action.isOcrWrite = true → s.cmdAngle.toNat ≤ 179

/-- Folds the actions of TRACE into what they leave of (OCR, LED, PWM_ACTIVE), from what stood there at first. -/
def replayOutputs (o : OcrWord × Bool × OcrWord) (tr : List Action) : OcrWord × Bool × OcrWord :=
  tr.foldl (fun o a => match a with
    | .ocrWrite v => (v, o.2.1, o.2.2)
    | .led b => (o.1, b, o.2.2)
    | .mainLed b => (o.1, b, o.2.2)
    | .pulse v => (o.1, o.2.1, v)
    | .rearm => o
    | .wait _ => o) o

/-- The outputs are what TRACE says was last written to them, and REARM_COUNT is the number of `Rearm`s (R30, R135). -/
structure TraceInv (s : State) : Prop where
  outputs : ∃ o, replayOutputs o s.trace = (s.ocr, s.led, s.pwmActive)
  rearms : s.trace.count .rearm = s.rearmCount

/-- The action that an element of a sequence emits (R90, R100, R117). -/
def primAction (p : Params) : Prim → Action
  | .moveTo a => .ocrWrite (pulseFor p a)
  | .ledSet b => .led b
  | .wait n => .wait n

/-- Not an action of the PWM generator. -/
def Action.notPulse : Action → Bool
  | .pulse _ => false
  | .rearm | .ocrWrite _ | .led _ | .wait _ | .mainLed _ => true

/-- While a handler runs, TRACE ends with the actions of the elements already run, in order, with nothing foreign
among them but pulses (R120). `mark` is where the handler's part of TRACE begins. -/
def OrderInv (s : State) : Prop :=
  s.isrActive = true → ∃ mark : Nat, mark ≤ s.trace.length ∧
    (s.trace.drop mark).filter Action.notPulse =
      ((seq s.seqCmd).take s.seqPc.toNat).map (primAction Config.params)

/-- `n` on/off indicator cycles in TRACE (R104). -/
def cycles (n : Nat) (on off : Count) : List Action :=
  (List.replicate n [.led true, .wait on, .led false, .wait off]).flatten

/-- `s` without its ghost state (R30). -/
def State.withoutGhost (s : State) : State := { s with trace := [], eventCount := 0, rearmCount := 0 }

/-- BRX_STATE as a decision sees it: `Idle` and `DataReceived` alike (R141). -/
def BrxState.merged : BrxState → BrxState
  | .idle => .idle
  | .addressMatched => .addressMatched
  | .dataReceived => .idle

/-- `s` with `Idle` and `DataReceived` merged (R141). -/
def State.mergeIdle (s : State) : State := { s with brxState := s.brxState.merged }

/-- What the handler's decision does not depend on (R144): everything but the latch, BRX_STATE and the control bits. -/
def State.withOutputs (s : State) (o : State) : State :=
  { s with ackEn := o.ackEn, ocr := o.ocr, led := o.led, cmdAngle := o.cmdAngle, rxData := o.rxData }

/-- The transition table of R140, cell by cell: the state after, and whether a sequence is dispatched. -/
def brxTable : BrxState → EvtClass → BrxState × Bool
  | .idle, .slaAck => (.addressMatched, false)
  | .idle, .dataAck => (.idle, false)
  | .idle, .other => (.idle, false)
  | .addressMatched, .slaAck => (.addressMatched, false)
  | .addressMatched, .dataAck => (.dataReceived, true)
  | .addressMatched, .other => (.idle, false)
  | .dataReceived, .slaAck => (.addressMatched, false)
  | .dataReceived, .dataAck => (.idle, false)
  | .dataReceived, .other => (.idle, false)

/-- What the handler of an event dispatches (R132, R140). -/
def dispatched (p : Params) (b : BrxState) (e : BusEvent) : Option Behaviour :=
  if (brxTable b (classifyEvt p e.status)).2 then some (decodeCmd e.data) else none

/-- The ticks that a list of actions waits (R121). -/
def ticksWaited (tr : List Action) : Nat :=
  (tr.map fun
    | .wait n => n.toNat
    | .rearm | .ocrWrite _ | .led _ | .mainLed _ | .pulse _ => 0).sum

/-- The next state, if there is one. -/
def nextState (o : Host.Outcome State Fault Refusal) : Option State :=
  match o with
  | .next s => some s
  | .fault _ => none
  | .refused _ => none

/-- The steps of a list of choices, in order. -/
def runChoices : List Choice → State → Host.Outcome State Fault Refusal
  | [], s => .next s
  | c :: cs, s =>
    match agentStep c s with
    | .next t => runChoices cs t
    | .fault r => .fault r
    | .refused r => .refused r

/-- The four agents of R7; the other two are the outside's (boot, reset). -/
def agents : List Agent := [.bus, .isr, .main, .pwm]

/-- A run of the interleaving (R52): `run` holds its states and `choose` the schedule, which no state stores (R35). -/
def Interleaving (choose : Nat → Choice) (run : Nat → State) : Prop :=
  ∀ n, agentStep (choose n) (run n) = .next (run (n + 1))

/-- Weak fairness: "an agent whose step stays enabled is eventually scheduled" (R8), the spec's only liveness
assumption (R132, D11, D22; log 12). -/
def WeaklyFair (choose : Nat → Choice) (run : Nat → State) : Prop :=
  ∀ a ∈ agents, ∀ n, (∀ m, n ≤ m → enabled a (run m) = true) → ∃ m, n ≤ m ∧ (choose m).agent = a

/-- Every step of every agent keeps `P`, whatever the schedule, the events and the draws. -/
def KeptByAgents (P : State → Prop) : Prop := ∀ (c : Choice) (s t : State), P s → agentStep c s = .next t → P t

/-- A safe step: it answers a next state. Every step is one (R150). -/
def StepsOn (s : State) : Prop := ∃ t, step s = .next t

end Sys2Proof.Machine
end

