-- ==== Sys2Proof/Certificates/Slice0/Obligations.lean ====
section
/-! DEFINITION. What is claimed of the model. Rule numbers are of `spec/`; "log n" is `notes/assumptions/n.md`. A
statement about the step of an agent is about `agentStep c`, for every state and every event or draw the choice `c` may
carry; StepRunsDecodedInstruction and RunIsAnInterleaving say that `step` takes such steps. -/

open Sys2Proof Sys2Proof.Machine

/-! ## Words -/

/-- R61. -/
def Obligations.CommandByteDecoding : Prop :=
  decodeCmd 1 = .opening ∧ decodeCmd 2 = .closing ∧ decodeCmd 3 = .twitching ∧
    (∀ b : Byte, b ≠ 1 → b ≠ 2 → b ≠ 3 → decodeCmd b = .unrecognized) ∧
    (List.range 256).countP (fun n => decide (decodeCmd (BitVec.ofNat 8 n) = .unrecognized)) = 253

/-- R62, under every legal configuration. -/
def Obligations.StatusClassification : Prop :=
  ∀ p : Params, p.legal = true → ∀ s : Byte,
    (classifyEvt p s = .slaAck ↔ s = p.scSlaAck) ∧
      (classifyEvt p s = .dataAck ↔ s = p.scDataAck) ∧
      (classifyEvt p s = .other ↔ s ≠ p.scSlaAck ∧ s ≠ p.scDataAck)

/-- Words written out from `30_encoding.md` and what they stand for (status codes of CFG_A). -/
def Obligations.KnownWordsDecode : Prop :=
  decodeWith .cfgA (.command 0b00000001) = .ok .cmdOpen ∧
    decodeWith .cfgA (.command 0b00000010) = .ok .cmdClose ∧
    decodeWith .cfgA (.command 0b00000011) = .ok .cmdTwitch ∧
    decodeWith .cfgA (.command 0b10000001) = .ok (.cmdUnrecognized 0b10000001) ∧
    decodeWith .cfgA (.event 0b01100000 0b00000000) = .ok (.evtSlaAck 0) ∧
    decodeWith .cfgA (.event 0b10000000 0b00000011) = .ok (.evtDataAck 3) ∧
    decodeWith .cfgA (.event 0b10100000 0b00000001) = .ok (.evtOther 0xA0 1) ∧
    decodeWith .cfgA (.micro 0b001 [180]) = .ok (.moveTo 180) ∧
    decodeWith .cfgA (.micro 0b100 [2, 1, 3]) = .ok (.blink 2 1 3) ∧
    decodeWith .cfgA (.micro 0b101 [50]) = .ok (.wait 50)

/-- No bit of an instruction is lost in its word, for every instruction and every configuration. -/
def Obligations.DecodeEncodeRoundTrip : Prop :=
  ∀ p : Params, p.legal = true → ∀ i : Instr, i.wfWith p = true → decodeWith p (encodeWith p i) = .ok i

/-- Every word the decoder accepts is the word of the instruction it gives. -/
def Obligations.AcceptedWordsAreEncodings : Prop :=
  ∀ (p : Params) (r : Raw) (i : Instr), decodeWith p r = .ok i → i.wfWith p = true ∧ encodeWith p i = r

/-- Every format U word that is no micro-operation is refused by name (the model's word form, log 9): tag 7, a number
of operands that is not the tag's, an operand that does not fit its width. -/
def Obligations.MicroWordsRefusedByName : Prop :=
  ∀ p : Params,
    (∀ operands : List Count, decodeWith p (.micro 7 operands) = .error .unknownTag) ∧
      (∀ v : Count, 256 ≤ v.toNat →
        decodeWith p (.micro 0 [v]) = .error .operandRange ∧ decodeWith p (.micro 1 [v]) = .error .operandRange) ∧
      (∀ v : Count, 2 ≤ v.toNat → decodeWith p (.micro 2 [v]) = .error .operandRange) ∧
      (∀ (tag : BitVec 3) (operands : List Count), tag ≠ 7 →
        operands.length ≠ (if tag = 3 ∨ tag = 6 then 0 else if tag = 4 then 3 else 1) →
        decodeWith p (.micro tag operands) = .error .operandCount)

/-! ## Configuration, clamp, table -/

/-- R6: the constraints, the refusal of a configuration that breaks one, and that this instance breaks none. -/
def Obligations.ConfigurationConstraints : Prop :=
  (∀ p : Params,
      (p.scSlaAck ≠ p.scDataAck ∧ 1 ≤ p.pulseStep ∧ p.pulseMin + 179 * p.pulseStep < 2 ^ 16 ∧
          (∀ top, p.pwmTop = some top → p.pulseMin + 179 * p.pulseStep ≤ top) →
        checkParams p = .ok p) ∧
      (¬(p.scSlaAck ≠ p.scDataAck ∧ 1 ≤ p.pulseStep ∧ p.pulseMin + 179 * p.pulseStep < 2 ^ 16 ∧
          (∀ top, p.pwmTop = some top → p.pulseMin + 179 * p.pulseStep ≤ top)) →
        checkParams p = .error .illegalConfiguration)) ∧
    checkParams Config.params = .ok Config.params

/-- The free configuration of the instance leaves no legal configuration out (log 7). -/
def Obligations.EveryLegalConfigurationCovered : Prop :=
  ∀ p : Params, p.legal = true → ∃ f : FreeParams, Params.ofFree f = p

/-- R80. -/
def Obligations.ClampSaturates : Prop :=
  ∀ a : Angle,
    (a.toNat ≤ 179 → (clamp a).val = a.toNat) ∧ (180 ≤ a.toNat → (clamp a).val = 179) ∧ (clamp a).val ≤ 179 ∧
      clamp (clampedAngle a) = clamp a

/-- R81 and R83. -/
def Obligations.PulseTableStrictlyLinear : Prop :=
  ∀ p : Params, p.legal = true →
    (∀ a : Angle, pulseFor p a = tblRead p (clamp a) ∧
        (pulseFor p a).toNat = p.pulseMin + (clamp a).val * p.pulseStep) ∧
      (∀ a b : Angle, a.toNat < b.toNat → b.toNat ≤ 179 →
        (pulseFor p a).toNat < (pulseFor p b).toNat ∧
          (pulseFor p b).toNat - (pulseFor p a).toNat = (b.toNat - a.toNat) * p.pulseStep) ∧
      (∀ a b : Angle, a.toNat ≤ b.toNat → (pulseFor p a).toNat ≤ (pulseFor p b).toNat) ∧
      (pulseFor p 0).toNat = p.pulseMin ∧ (pulseFor p 179).toNat = p.pulseMax ∧
      (∀ a : Angle, 180 ≤ a.toNat → pulseFor p a = pulseFor p 179)

/-- R41, R84: no entry wraps, and entry 179 is the largest. -/
def Obligations.TableEntriesNeverWrap : Prop :=
  ∀ p : Params, p.legal = true → ∀ i : Fin 180,
    (tblRead p i).toNat = p.pulseMin + i.val * p.pulseStep ∧ (tblRead p i).toNat ≤ p.pulseMax

/-- R43, R84: the step is the integer nearest to the quotient, and never at a tie. -/
def Obligations.NominalStepIsNearest : Prop :=
  ∀ minPulse maxPulse : Nat, minPulse ≤ maxPulse →
    2 * (179 * stepOfNominal minPulse maxPulse) < 2 * (maxPulse - minPulse) + 179 ∧
      2 * (maxPulse - minPulse) < 2 * (179 * stepOfNominal minPulse maxPulse) + 179

/-- R67. -/
def Obligations.TicksOfMilliseconds : Prop :=
  (∀ ms : Count, ms.toNat % 16 = 0 → ∃ n : Count, ticksOfMs ms = .ok n ∧ n.toNat = ms.toNat / 16) ∧
    (∀ ms : Count, ms.toNat % 16 ≠ 0 → ticksOfMs ms = .error .offTickGrid) ∧
    ticksOfMs 16 = .ok 1 ∧ ticksOfMs 64 = .ok 4 ∧ ticksOfMs 800 = .ok 50

/-! ## Micro-operations: what each does, and that it does nothing else -/

/-- R82. -/
def Obligations.PulseForReturnsEntry : Prop :=
  (∀ (a : Angle) (s : State),
      exec (.pulseFor a) s = .next s ∧
        (pulseForOp Config.params a s).2 = s ∧
        (pulseForOp Config.params a s).1.toNat =
          Config.params.pulseMin + (if 180 ≤ a.toNat then 179 else a.toNat) * Config.params.pulseStep) ∧
    (pulseFor .cfgA 155).toNat = 1930

/-- R90. -/
def Obligations.MoveToEffect : Prop :=
  (∀ (a : Angle) (s : State), ∃ t,
      exec (.moveTo a) s = .next t ∧
        t.ocr.toNat = Config.params.pulseMin + (if 180 ≤ a.toNat then 179 else a.toNat) * Config.params.pulseStep ∧
        t.cmdAngle.toNat = (if 180 ≤ a.toNat then 179 else a.toNat) ∧
        t = { s with ocr := t.ocr, cmdAngle := t.cmdAngle, trace := s.trace ++ [.ocrWrite t.ocr] }) ∧
    ∀ s : State, (moveTo .cfgA 180 s).ocr = 2074 ∧ (moveTo .cfgA 180 s).cmdAngle = 179

/-- R100. -/
def Obligations.LedSetEffect : Prop :=
  ∀ (b : Bool) (s : State), exec (.ledSet b) s = .next { s with led := b, trace := s.trace ++ [.led b] }

/-- R101, the indivisible form: nothing is traced. -/
def Obligations.LedToggleEffect : Prop :=
  ∀ s : State, exec .ledToggle s = .next { s with led := !s.led }

/-- R103, R104: `c` cycles in TRACE, the indicator off at the end, nothing at all for `c = 0`. -/
def Obligations.BlinkEffect : Prop :=
  ∀ (c on off : Count) (s : State),
    exec (.blink c on off) s =
        .next { s with led := if c = 0 then s.led else false, trace := s.trace ++ cycles c.toNat on off } ∧
      (cycles c.toNat on off).count (.led true) = c.toNat ∧ (cycles c.toNat on off).count (.led false) = c.toNat ∧
      (cycles c.toNat on off).length = 4 * c.toNat

/-- R117. -/
def Obligations.WaitEffect : Prop :=
  ∀ (n : Count) (s : State), exec (.wait n) s = .next { s with trace := s.trace ++ [.wait n] }

/-- R145. -/
def Obligations.RearmEffect : Prop :=
  ∀ s : State, exec .rearm s =
    .next { s with armed := true, ackEn := true, evtValid := false, trace := s.trace ++ [.rearm] }

/-! ## Commands -/

/-- R111. -/
def Obligations.OpenEffect : Prop :=
  ∀ s : State, ∃ t,
    exec .cmdOpen s = .next t ∧ t.ocr.toNat = Config.params.pulseMin ∧
      t = { s with
        ocr := t.ocr
        cmdAngle := 0
        led := false
        trace := s.trace ++ [.ocrWrite t.ocr, .led true, .wait 1, .led false, .wait 1, .led true, .wait 1, .led false,
          .wait 1, .wait 50] }

/-- R112. -/
def Obligations.CloseEffect : Prop :=
  ∀ s : State, ∃ t,
    exec .cmdClose s = .next t ∧ t.ocr.toNat = Config.params.pulseMax ∧
      t = { s with
        ocr := t.ocr
        cmdAngle := 179
        led := false
        trace := s.trace ++ ([.ocrWrite t.ocr] ++ cycles 20 1 1 ++ [.wait 50]) }

/-- R113. -/
def Obligations.TwitchEffect : Prop :=
  ∀ s : State, ∃ t,
    exec .cmdTwitch s = .next t ∧ t.ocr.toNat = Config.params.pulseMax ∧
      ∃ v : OcrWord, v.toNat = Config.params.pulseMin + 155 * Config.params.pulseStep ∧
        t = { s with
          ocr := t.ocr
          cmdAngle := 179
          led := false
          trace := s.trace ++ ([.ocrWrite v, .wait 4, .ocrWrite t.ocr] ++ cycles 5 1 1) }

/-- R114: the same for every code, the actuator's registers kept. -/
def Obligations.UnrecognizedEffect : Prop :=
  ∀ (code : Byte) (s : State), exec (.cmdUnrecognized code) s =
    .next { s with led := false, trace := s.trace ++ (cycles 100 1 1 ++ [.wait 50]) }

/-- R110: the store's contents, and the lengths 0, 10, 82, 23 and 401. -/
def Obligations.SequenceStoreContents : Prop :=
  seq none = [] ∧
    seq (some .opening) = [.moveTo 0] ++ blinkSeq 2 1 1 ++ [.wait 50] ∧
    seq (some .closing) = [.moveTo 180] ++ blinkSeq 20 1 1 ++ [.wait 50] ∧
    seq (some .twitching) = [.moveTo 155, .wait 4, .moveTo 179] ++ blinkSeq 5 1 1 ∧
    seq (some .unrecognized) = blinkSeq 100 1 1 ++ [.wait 50] ∧
    (∀ c on off : Count, blinkSeq c on off =
      (List.replicate c.toNat [Prim.ledSet true, .wait on, .ledSet false, .wait off]).flatten) ∧
    (seq none).length = 0 ∧ (seq (some .opening)).length = 10 ∧ (seq (some .closing)).length = 82 ∧
    (seq (some .twitching)).length = 23 ∧ (seq (some .unrecognized)).length = 401

/-- R121: the ticks each command waits. -/
def Obligations.SequenceWaitingTimes : Prop :=
  ∀ s : State,
    (∃ t, exec .cmdOpen s = .next t ∧ ticksWaited t.trace = ticksWaited s.trace + 54) ∧
      (∃ t, exec .cmdClose s = .next t ∧ ticksWaited t.trace = ticksWaited s.trace + 90) ∧
      (∃ t, exec .cmdTwitch s = .next t ∧ ticksWaited t.trace = ticksWaited s.trace + 14) ∧
      ∀ code : Byte, ∃ t, exec (.cmdUnrecognized code) s = .next t ∧
        ticksWaited t.trace = ticksWaited s.trace + 250

/-- R119: what a command appends to TRACE depends on the command alone. That `exec` of a command leaves SEQ_CMD and
SEQ_PC to the stepping is log 6. -/
def Obligations.DispatchKeepsNothing : Prop :=
  ∀ c : Behaviour, ∃ tr : List Action, ∀ (code : Byte) (s : State), ∃ t,
    exec (c.instr code) s = .next t ∧ t.trace = s.trace ++ tr ∧ t.seqCmd = s.seqCmd ∧ t.seqPc = s.seqPc ∧
      (c = .unrecognized → t.ocr = s.ocr ∧ t.cmdAngle = s.cmdAngle)

/-! ## Bus events -/

/-- R136; from `AddressMatched` and `DataReceived` too by the spec's decision D9 (log 14). -/
def Obligations.EvtSlaAckEffect : Prop :=
  ∀ (data : Byte) (s : State), s.armed = true → s.isrActive = false →
    exec (.evtSlaAck data) s = .next { s with
      brxState := .addressMatched
      evtStatus := Config.params.scSlaAck
      evtData := data
      armed := true
      ackEn := true
      evtValid := false
      isrActive := false
      seqCmd := none
      seqPc := 0
      eventCount := s.eventCount + 1
      rearmCount := s.rearmCount + 1
      trace := s.trace ++ [.rearm] }

/-- R137, R139: from `AddressMatched` everything the command writes, then the re-arm; else as EVT_OTHER, which R139
calls the spec's choice (D8, log 14). -/
def Obligations.EvtDataAckEffect : Prop :=
  ∀ (d : Byte) (s : State), s.armed = true → s.isrActive = false →
    (s.brxState = .addressMatched → ∃ u,
      exec ((decodeCmd d).instr d) s = .next u ∧
        exec (.evtDataAck d) s = .next { s with
          brxState := .dataReceived
          rxData := d
          evtStatus := Config.params.scDataAck
          evtData := d
          armed := true
          ackEn := true
          evtValid := false
          isrActive := false
          seqCmd := none
          seqPc := 0
          ocr := u.ocr
          cmdAngle := u.cmdAngle
          led := u.led
          eventCount := s.eventCount + 1
          rearmCount := s.rearmCount + 1
          trace := u.trace ++ [.rearm] }) ∧
      (s.brxState ≠ .addressMatched →
        exec (.evtDataAck d) s = .next { s with
          brxState := .idle
          evtStatus := Config.params.scDataAck
          evtData := d
          armed := true
          ackEn := true
          evtValid := false
          isrActive := false
          seqCmd := none
          seqPc := 0
          eventCount := s.eventCount + 1
          rearmCount := s.rearmCount + 1
          trace := s.trace ++ [.rearm] })

/-- R138. -/
def Obligations.EvtOtherEffect : Prop :=
  ∀ (status data : Byte) (s : State), status ≠ Config.params.scSlaAck → status ≠ Config.params.scDataAck →
    s.armed = true → s.isrActive = false →
    exec (.evtOther status data) s = .next { s with
      brxState := .idle
      evtStatus := status
      evtData := data
      armed := true
      ackEn := true
      evtValid := false
      isrActive := false
      seqCmd := none
      seqPc := 0
      eventCount := s.eventCount + 1
      rearmCount := s.rearmCount + 1
      trace := s.trace ++ [.rearm] }

/-- R131, D7: an event that cannot be delivered changes nothing; it stays with the peripheral (logs 4, 13). -/
def Obligations.EventHeldWhileUnready : Prop :=
  ∀ (status data : Byte) (s : State), (s.armed = false ∨ s.isrActive = true) →
    exec (decodeEvent Config.params status data) s = .next s ∧
      (s.armed = false → agentStep (.bus ⟨status, data⟩) s = .next s)

/-- R140, every cell; four of the nine are the spec's decisions D8 and D9 (log 14). -/
def Obligations.TransitionTable : Prop :=
  ∀ (e : BusEvent) (s : State), s.armed = true → s.isrActive = false → ∃ t,
    exec (decodeEvent Config.params e.status e.data) s = .next t ∧
      t.brxState = (brxTable s.brxState (classifyEvt Config.params e.status)).1 ∧
      t.rxData = (if (brxTable s.brxState (classifyEvt Config.params e.status)).2 then e.data else s.rxData) ∧
      t.trace = s.trace ++
        ((if (brxTable s.brxState (classifyEvt Config.params e.status)).2
            then (seq (some (decodeCmd e.data))).map (primAction Config.params) else []) ++ [.rearm])

/-- R142: for every status code, data byte and receiver state, one `Rearm`, last, and the responder armed. -/
def Obligations.EveryEventRearmsOnce : Prop :=
  ∀ (e : BusEvent) (s : State), HandshakeInv s → s.ackEn = true → s.evtValid = false → ∃ t body,
    exec (decodeEvent Config.params e.status e.data) s = .next t ∧
      t.trace = s.trace ++ (body ++ [.rearm]) ∧ Action.rearm ∉ body ∧
      t.isrActive = false ∧ t.armed = true ∧ t.ackEn = true ∧ t.evtValid = false ∧
      t.rearmCount = t.eventCount ∧ t.eventCount = s.eventCount + 1

/-! ## Steps -/

/-- What a step runs is the instruction the machine has fetched: a word placed from outside (log 5), else the freely
chosen agent's step (log 3), which by `ISR_STEP` is an element of the sequence store. -/
def Obligations.StepRunsDecodedInstruction : Prop :=
  (∀ (s : State) (w : InputWord), s.env.placed = some w →
      step s = exec (decodeInput w) { s with env := { s.env with placed := none } }) ∧
    (∀ s : State, s.env.placed = none →
      step s = agentStep (Config.schedule s.env.draws) { s with env := { s.env with draws := s.env.draws + 1 } }) ∧
    (∀ (s : State) (u : Prim), s.isrActive = true → seqFetch s = some u → ∃ t,
      exec u.instr s = .next t ∧ agentStep .isr s = .next (advanceSeqPc t))

/-- R7, R52: a run of the machine is a run of whole steps of the agents, in the order of a free schedule (log 3), and
the block's part of it depends on nothing outside the block but that schedule. -/
def Obligations.RunIsAnInterleaving : Prop :=
  ∀ (k : Nat) (s : State), s.env.placed = none → ∃ t : State,
    runChoices ((List.range k).map fun i => Config.schedule (s.env.draws + i)) s = .next t ∧ t.env = s.env ∧
      Host.Core.run core k s = .next { t with env := { s.env with draws := s.env.draws + k } }

/-- R131: `EVT_DELIVER`. That a choice not enabled takes no step is log 4. -/
def Obligations.EvtDeliverStep : Prop :=
  ∀ (e : BusEvent) (s : State),
    (s.armed = true → agentStep (.bus e) s = .next { s with
      evtStatus := e.status
      evtData := e.data
      evtValid := true
      armed := false }) ∧
      (s.armed = false → agentStep (.bus e) s = .next s)

/-- R132: `ISR_ENTER`. That the step answers the same state where nothing is pending is log 4. -/
def Obligations.IsrEnterStep : Prop :=
  ∀ s : State, s.isrActive = false →
    (s.evtValid = true → s.evtStatus = Config.params.scSlaAck →
      agentStep .isr s = .next { s with
        isrActive := true, eventCount := s.eventCount + 1, brxState := .addressMatched, seqCmd := none, seqPc := 0 }) ∧
      (s.evtValid = true → s.evtStatus = Config.params.scDataAck → s.brxState = .addressMatched →
        agentStep .isr s = .next { s with
          isrActive := true, eventCount := s.eventCount + 1, brxState := .dataReceived, rxData := s.evtData,
          seqCmd := some (decodeCmd s.evtData), seqPc := 0 }) ∧
      (s.evtValid = true → s.evtStatus ≠ Config.params.scSlaAck →
        ¬(s.evtStatus = Config.params.scDataAck ∧ s.brxState = .addressMatched) →
        agentStep .isr s = .next { s with
          isrActive := true, eventCount := s.eventCount + 1, brxState := .idle, seqCmd := none, seqPc := 0 }) ∧
      (s.evtValid = false → agentStep .isr s = .next s)

/-- R134: `ISR_STEP`. -/
def Obligations.IsrStepRunsElement : Prop :=
  ∀ s : State, s.isrActive = true →
    (∀ h : s.seqPc.toNat < (seq s.seqCmd).length, ∃ t,
      exec ((seq s.seqCmd)[s.seqPc.toNat]).instr s = .next t ∧
        agentStep .isr s = .next { t with seqPc := s.seqPc + 1 } ∧ (s.seqPc + 1).toNat = s.seqPc.toNat + 1) ∧
      (s.seqCmd = none → s.seqPc = 0 → agentStep .isr s = .next (isrExit s))

/-- R135: `ISR_EXIT`, and that it alone emits `Rearm`; a reset empties TRACE. -/
def Obligations.IsrExitStep : Prop :=
  (∀ s : State, s.isrActive = true → s.seqPc.toNat = (seq s.seqCmd).length →
      agentStep .isr s = .next { s with
        armed := true
        ackEn := true
        evtValid := false
        trace := s.trace ++ [.rearm]
        rearmCount := s.rearmCount + 1
        seqCmd := none
        seqPc := 0
        isrActive := false }) ∧
    ∀ (c : Choice) (s t : State), agentStep c s = .next t → c.agent ≠ .rst →
      ¬(c = .isr ∧ s.isrActive = true ∧ s.seqPc.toNat = (seq s.seqCmd).length) →
      t.trace.count .rearm = s.trace.count .rearm ∧ t.rearmCount = s.rearmCount

/-- R102: MAIN's two steps. That the step answers the same state while a handler runs is log 4. -/
def Obligations.MainToggleSteps : Prop :=
  ∀ s : State,
    (s.isrActive = false → s.tglPending = false →
      agentStep .main s = .next { s with tglTmp := s.led, tglPending := true }) ∧
      (s.isrActive = false → s.tglPending = true →
        agentStep .main s = .next { s with
          led := !s.tglTmp, tglPending := false, trace := s.trace ++ [.mainLed (!s.tglTmp)] }) ∧
      (s.isrActive = true → agentStep .main s = .next s)

/-- R93: `PWM_PERIOD`, in every state; the line is high for PWM_ACTIVE of PWM_TOP. That the value is taken at the
boundary, and the high part, are what R93 calls the spec's reading (D12, log 15); the high part of a value above PWM_TOP
is the model's choice (log 29). -/
def Obligations.PwmPeriodStep : Prop :=
  ∀ s : State, ∃ t,
    agentStep .pwm s = .next t ∧ t = { s with pwmActive := s.ocr, trace := s.trace ++ [.pulse s.ocr] } ∧
      ∀ top, Config.params.pwmTop = some top → actuationDuty Config.params t = some (s.ocr.toNat, top)

/-- R180 to R182, R184: reset in any state, what it leaves, and that the block is inert until boot: before boot (the
form of log 28) no choice of BUS or ISR changes anything, and only boot arms. That a choice not enabled takes no step is
log 4. -/
def Obligations.ResetLeavesQuiescentState : Prop :=
  (∀ (d : ResetDraws) (s : State), ∃ t,
      agentStep (.rst d) s = .next t ∧ t = State.resetWith d s.env ∧ t.brxState = .idle ∧ t.armed = false ∧
        t.ackEn = false ∧ t.evtValid = false ∧ t.isrActive = false ∧ t.seqCmd = none ∧ t.seqPc = 0 ∧
        t.tglPending = false ∧ t.trace = [] ∧ t.eventCount = 0 ∧ t.rearmCount = 0) ∧
    (∃ d e, State.reset = State.resetWith d e) ∧
    (∀ (d : ResetDraws) (e : Env) (c : Choice), c.agent = .bus ∨ c.agent = .isr →
      agentStep c (State.resetWith d e) = .next (State.resetWith d e)) ∧
    ∀ (s : State) (c : Choice), HandshakeInv s → s.ackEn = false →
      (c.agent = .bus ∨ c.agent = .isr → agentStep c s = .next s) ∧
        (c.agent ≠ .boot → ∃ t, agentStep c s = .next t ∧ t.ackEn = false ∧ t.armed = false ∧ t.evtValid = false ∧
          t.isrActive = false)

/-- R185: boot leads from reset to launch, and in the launch state only `EVT_DELIVER`, `MAIN_TGL_READ` and
`PWM_PERIOD` are enabled (reset may always come). The model's choices in it: boot as a step (log 10), that a choice not
enabled takes no step (log 4). -/
def Obligations.LaunchStateEnabledSteps : Prop :=
  ∀ (d : ResetDraws) (e : Env),
    agentStep .boot (State.resetWith d e) = .next (State.launchWith d e) ∧
      State.launchWith d e = { State.resetWith d e with armed := true, ackEn := true } ∧
      (∀ c : Choice, c = .isr ∨ c = .boot → agentStep c (State.launchWith d e) = .next (State.launchWith d e)) ∧
      (∀ a : Agent, enabled a (State.launchWith d e) = true ↔ a = .bus ∨ a = .main ∨ a = .pwm ∨ a = .rst) ∧
      (∀ ev : BusEvent, ∃ t, agentStep (.bus ev) (State.launchWith d e) = .next t ∧ t.evtValid = true) ∧
      (∃ t, agentStep .main (State.launchWith d e) = .next t ∧ t.tglPending = true) ∧
      ∃ t, agentStep .pwm (State.launchWith d e) = .next t ∧ t.trace = [.pulse d.ocr]

/-- R150: nothing stops. -/
def Obligations.EveryStepGoesOn : Prop :=
  (∀ s : State, StepsOn s) ∧ (∀ (c : Choice) (s : State), ∃ t, agentStep c s = .next t) ∧
    ∀ (i : Instr) (s : State), ∃ t, exec i s = .next t

/-! ## Invariants and whole-machine rules -/

/-- R32, in the form of log 28, is kept by every step, of every agent, and by reset and boot; its (f), ACK_EN = 1, is
kept by every step of an agent but reset. -/
def Obligations.HandshakeInvKept : Prop :=
  (∀ s t : State, HandshakeInv s → step s = .next t → HandshakeInv t) ∧ KeptByAgents HandshakeInv ∧
    ∀ (c : Choice) (s t : State), HandshakeInv s → agentStep c s = .next t → c.agent ≠ .rst → s.ackEn = true →
      t.ackEn = true

/-- R32 holds at launch, and its form of log 28 holds from reset on, whatever the registers of R183 hold. -/
def Obligations.HandshakeInvAtReset : Prop :=
  HandshakeInv State.reset ∧
    ∀ (d : ResetDraws) (e : Env), HandshakeInv (State.resetWith d e) ∧ HandshakeInv (State.launchWith d e) ∧
      (State.launchWith d e).ackEn = true

/-- OCR, LED and PWM_ACTIVE are what TRACE says was last written, and REARM_COUNT counts the `Rearm`s; and no agent's
step but reset writes one of the three without its action in TRACE. -/
def Obligations.TraceInvKept : Prop :=
  (∀ s t : State, TraceInv s → step s = .next t → TraceInv t) ∧ KeptByAgents TraceInv ∧
    ∀ (c : Choice) (s t : State) (o : OcrWord × Bool × OcrWord), c.agent ≠ .rst → agentStep c s = .next t →
      replayOutputs o s.trace = (s.ocr, s.led, s.pwmActive) → replayOutputs o t.trace = (t.ocr, t.led, t.pwmActive)

/-- `TraceInv` and `OrderInv` hold after reset. -/
def Obligations.TraceInvAtReset : Prop :=
  ∀ (d : ResetDraws) (e : Env), TraceInv (State.resetWith d e) ∧ OrderInv (State.resetWith d e)

/-- R120: a handler's actions stand in TRACE in the sequence's order, with nothing foreign among them but pulses. A word
placed from outside (log 5) is not of the interleaving: with none placed, none is placed by a step. -/
def Obligations.SequenceOrderKept : Prop :=
  (∀ s t : State, s.env.placed = none → OrderInv s → step s = .next t → t.env.placed = none ∧ OrderInv t) ∧
    KeptByAgents OrderInv ∧
    ∀ s : State, OrderInv s → s.isrActive = true → s.seqPc.toNat = (seq s.seqCmd).length →
      ∃ mark, mark ≤ s.trace.length ∧
        (s.trace.drop mark).filter Action.notPulse = (seq s.seqCmd).map (primAction Config.params)

/-- An event's instruction is the run of its small steps: `EVT_DELIVER`, `ISR_ENTER`, the `ISR_STEP`s, `ISR_EXIT`. -/
def Obligations.EventEqualsSmallSteps : Prop :=
  ∀ (s : State) (e : BusEvent), s.armed = true → s.isrActive = false → ∃ t : State,
    runChoices (.bus e :: List.replicate ((seq (dispatched Config.params s.brxState e)).length + 2) .isr) s = .next t ∧
      exec (decodeEvent Config.params e.status e.data) s = .next t

/-- A command's instruction is the run of its `ISR_STEP`s (R118). -/
def Obligations.CommandEqualsSmallSteps : Prop :=
  ∀ (s : State) (c : Behaviour), s.isrActive = true → s.seqCmd = some c → s.seqPc = 0 → ∃ t u : State,
    runChoices (List.replicate (seq (some c)).length .isr) s = .next t ∧ exec (c.instr s.rxData) s = .next u ∧
      t = { u with seqPc := BitVec.ofNat 9 (seq (some c)).length }

/-- R142, R143: a running handler reaches its re-arm within the elements left and one more step; and in every weakly
fair run (R8) every pending event is eventually re-armed, unless a reset takes it. -/
def Obligations.HandlerAlwaysReachesRearm : Prop :=
  (∀ (s : State) (n : Nat), HandshakeInv s → s.isrActive = true →
    n = (seq s.seqCmd).length - s.seqPc.toNat → ∃ t : State,
      runChoices (List.replicate (n + 1) .isr) s = .next t ∧ n + 1 ≤ 402 ∧ t.isrActive = false ∧ t.armed = true ∧
        t.ackEn = true ∧ t.evtValid = false ∧ t.rearmCount = s.rearmCount + 1 ∧ t.rearmCount = t.eventCount) ∧
    ∀ (choose : Nat → Choice) (run : Nat → State), Interleaving choose run → WeaklyFair choose run →
      HandshakeInv (run 0) → ∀ n : Nat, (run n).evtValid = true →
        ∃ m, n ≤ m ∧ (run m).evtValid = false ∧ ((run m).ackEn = true → (run m).armed = true)

/-- R30: "no step's enabling or effect depends on" the ghost state. -/
def Obligations.GhostStateUnread : Prop :=
  ∀ s₁ s₂ : State, s₁.withoutGhost = s₂.withoutGhost →
    (∀ a : Agent, enabled a s₁ = enabled a s₂) ∧
      (∀ (c : Choice) (t₁ : State), agentStep c s₁ = .next t₁ →
        ∃ t₂, agentStep c s₂ = .next t₂ ∧ t₁.withoutGhost = t₂.withoutGhost) ∧
      ∀ t₁ : State, step s₁ = .next t₁ → ∃ t₂, step s₂ = .next t₂ ∧ t₁.withoutGhost = t₂.withoutGhost

/-- R141: no step tells `Idle` from `DataReceived`. -/
def Obligations.IdleAndDataReceivedAlike : Prop :=
  ∀ s₁ s₂ : State, s₁.mergeIdle = s₂.mergeIdle →
    (∀ (c : Choice) (t₁ : State), agentStep c s₁ = .next t₁ →
        ∃ t₂, agentStep c s₂ = .next t₂ ∧ t₁.mergeIdle = t₂.mergeIdle) ∧
      ∀ t₁ : State, step s₁ = .next t₁ → ∃ t₂, step s₂ = .next t₂ ∧ t₁.mergeIdle = t₂.mergeIdle

/-- R161, R162: MAIN writes LED and its own two bits, and nothing while the handler runs. That the step then answers
the same state is the model's choice (log 4). -/
def Obligations.MainContextFrame : Prop :=
  ∀ s : State, ∃ t, agentStep .main s = .next t ∧
    t = { s with led := t.led, tglTmp := t.tglTmp, tglPending := t.tglPending, trace := t.trace } ∧
      (s.isrActive = true → t = s)

/-- R92: OCR and CMD_ANGLE change only where the interrupt context runs an element of a command (or at a reset). -/
def Obligations.OnlyHandlerWritesActuator : Prop :=
  ∀ (c : Choice) (s t : State), agentStep c s = .next t → c.agent ≠ .rst →
    (t.ocr ≠ s.ocr ∨ t.cmdAngle ≠ s.cmdAngle) →
    c = .isr ∧ s.isrActive = true ∧ ∃ a, seqFetch s = some (.moveTo a)

/-- R94: PWM_ACTIVE changes at a period boundary only (or at a reset), and there to the OCR before it. -/
def Obligations.PwmActiveChangesAtBoundary : Prop :=
  ∀ (c : Choice) (s t : State), agentStep c s = .next t → c.agent ≠ .rst →
    t.pwmActive = if c.agent = .pwm then s.ocr else s.pwmActive

/-- R55: while an event is pending the latch is not written. -/
def Obligations.LatchHeldWhilePending : Prop :=
  ∀ (c : Choice) (s t : State), HandshakeInv s → s.evtValid = true → agentStep c s = .next t → c.agent ≠ .rst →
    t.evtStatus = s.evtStatus ∧ t.evtData = s.evtData

/-- R144: what `ISR_ENTER` decides does not depend on ACK_EN, OCR, LED, CMD_ANGLE or RX_DATA. -/
def Obligations.HandlerDecisionIgnoresOutputs : Prop :=
  ∀ s o : State, s.isrActive = false → s.evtValid = true →
    ∃ t t', agentStep .isr s = .next t ∧ agentStep .isr (s.withOutputs o) = .next t' ∧ t.isrActive = true ∧
      t'.brxState = t.brxState ∧ t'.seqCmd = t.seqCmd ∧ t'.seqPc = t.seqPc ∧ t'.isrActive = t.isrActive ∧
      t'.eventCount = t.eventCount ∧ t'.trace = t.trace

/-- R21: after boot ACK_EN is never 0 until a reset, and every re-arm sets it. -/
def Obligations.AcknowledgeStaysEnabled : Prop :=
  ∀ (c : Choice) (s t : State), agentStep c s = .next t → c.agent ≠ .rst →
    (s.ackEn = true → t.ackEn = true) ∧ (t.rearmCount ≠ s.rearmCount → t.ackEn = true ∧ t.armed = true)
end

