-- ==== Sys2Proof/Laws/Config.lean ====
section
/-! SUPPORT. The configuration and the arithmetic over it: what legality gives, the clamp, the table. -/

namespace Sys2Proof

theorem Params.legal_iff (p : Params) :
    p.legal = true ↔ p.scSlaAck ≠ p.scDataAck ∧ 1 ≤ p.pulseStep ∧ p.pulseMax < 2 ^ 16 ∧
      ∀ top, p.pwmTop = some top → p.pulseMax ≤ top := by
  unfold Params.legal
  cases p.pwmTop <;> simp [and_assoc]

theorem Params.ofFree_legal (f : FreeParams) : (Params.ofFree f).legal = true := by
  rw [Params.legal_iff]
  have hstep := f.stepLessOne.isLt
  have hgap := f.scDataGap.isLt
  have hmod : f.minSeed % (2 ^ 16 - 179 * (f.stepLessOne.val + 1)) < 2 ^ 16 - 179 * (f.stepLessOne.val + 1) :=
    Nat.mod_lt _ (by omega)
  refine ⟨?_, ?_, ?_, ?_⟩
  · intro h
    have h' := congrArg BitVec.toNat h
    simp [Params.ofFree] at h'
    have := f.scSlaAck.isLt
    omega
  · simp [Params.ofFree]
  · simp only [Params.ofFree, Params.pulseMax, Machine.angleMax]
    omega
  · intro top htop
    simp only [Params.ofFree, Option.map_eq_some_iff] at htop
    obtain ⟨k, -, rfl⟩ := htop
    simp only [Params.ofFree, Params.pulseMax]
    omega

/-- The configuration of the instance is a legal one, whichever it is. -/
theorem Config.params_legal : Config.params.legal = true := Params.ofFree_legal _

theorem Params.cfgA_legal : Params.cfgA.legal = true := by decide

theorem Params.cfgB_legal : Params.cfgB.legal = true := by decide

theorem Params.codes_distinct {p : Params} (h : p.legal = true) : p.scSlaAck ≠ p.scDataAck :=
  ((Params.legal_iff p).1 h).1

theorem Params.pulseMax_lt {p : Params} (h : p.legal = true) : p.pulseMin + 179 * p.pulseStep < 2 ^ 16 :=
  ((Params.legal_iff p).1 h).2.2.1

theorem Params.one_le_step {p : Params} (h : p.legal = true) : 1 ≤ p.pulseStep :=
  ((Params.legal_iff p).1 h).2.1

theorem classifyEvt_sla (p : Params) : classifyEvt p p.scSlaAck = .slaAck := by simp [classifyEvt]

theorem classifyEvt_data {p : Params} (h : p.legal = true) : classifyEvt p p.scDataAck = .dataAck := by
  simp [classifyEvt, Ne.symm (Params.codes_distinct h)]

theorem classifyEvt_other {p : Params} {s : Byte} (h1 : s ≠ p.scSlaAck) (h2 : s ≠ p.scDataAck) :
    classifyEvt p s = .other := by simp [classifyEvt, h1, h2]

namespace Machine

@[simp] theorem clamp_val (a : Angle) : (clamp a).val = min a.toNat 179 := rfl

theorem clampedAngle_toNat (a : Angle) : (clampedAngle a).toNat = min a.toNat 179 := by
  simp only [clampedAngle, clamp_val, BitVec.toNat_ofNat]
  omega

/-- No table entry wraps (R41, R84). -/
theorem tblRead_val {p : Params} (h : p.legal = true) (i : Fin nAngles) :
    (tblRead p i).toNat = p.pulseMin + i.val * p.pulseStep := by
  have hmax := Params.pulseMax_lt h
  have hi : i.val * p.pulseStep ≤ 179 * p.pulseStep := Nat.mul_le_mul_right _ (Nat.le_of_lt_succ i.isLt)
  simp only [tblRead, BitVec.toNat_ofNat]
  omega

theorem pulseFor_val {p : Params} (h : p.legal = true) (a : Angle) :
    (pulseFor p a).toNat = p.pulseMin + min a.toNat 179 * p.pulseStep := by
  rw [pulseFor, tblRead_val h, clamp_val]

end Machine

end Sys2Proof
end

