-- ==== Sys2Proof/Laws/State.lean ====
section
/-! SUPPORT. One lemma per field per named update of State: what the update leaves in the field. -/

namespace Sys2Proof.Machine

section raiseEvent

variable (s : State)

@[simp] theorem raiseEvent_brxState : (raiseEvent s).brxState = s.brxState := rfl
@[simp] theorem raiseEvent_armed : (raiseEvent s).armed = false := rfl
@[simp] theorem raiseEvent_ackEn : (raiseEvent s).ackEn = s.ackEn := rfl
@[simp] theorem raiseEvent_evtValid : (raiseEvent s).evtValid = true := rfl
@[simp] theorem raiseEvent_evtStatus : (raiseEvent s).evtStatus = s.evtStatus := rfl
@[simp] theorem raiseEvent_evtData : (raiseEvent s).evtData = s.evtData := rfl
@[simp] theorem raiseEvent_isrActive : (raiseEvent s).isrActive = s.isrActive := rfl
@[simp] theorem raiseEvent_rxData : (raiseEvent s).rxData = s.rxData := rfl
@[simp] theorem raiseEvent_seqCmd : (raiseEvent s).seqCmd = s.seqCmd := rfl
@[simp] theorem raiseEvent_seqPc : (raiseEvent s).seqPc = s.seqPc := rfl
@[simp] theorem raiseEvent_cmdAngle : (raiseEvent s).cmdAngle = s.cmdAngle := rfl
@[simp] theorem raiseEvent_ocr : (raiseEvent s).ocr = s.ocr := rfl
@[simp] theorem raiseEvent_pwmActive : (raiseEvent s).pwmActive = s.pwmActive := rfl
@[simp] theorem raiseEvent_led : (raiseEvent s).led = s.led := rfl
@[simp] theorem raiseEvent_tglPending : (raiseEvent s).tglPending = s.tglPending := rfl
@[simp] theorem raiseEvent_tglTmp : (raiseEvent s).tglTmp = s.tglTmp := rfl
@[simp] theorem raiseEvent_trace : (raiseEvent s).trace = s.trace := rfl
@[simp] theorem raiseEvent_eventCount : (raiseEvent s).eventCount = s.eventCount := rfl
@[simp] theorem raiseEvent_rearmCount : (raiseEvent s).rearmCount = s.rearmCount := rfl
@[simp] theorem raiseEvent_env : (raiseEvent s).env = s.env := rfl

end raiseEvent

section rearmBits

variable (s : State)

@[simp] theorem rearmBits_brxState : (rearmBits s).brxState = s.brxState := rfl
@[simp] theorem rearmBits_armed : (rearmBits s).armed = true := rfl
@[simp] theorem rearmBits_ackEn : (rearmBits s).ackEn = true := rfl
@[simp] theorem rearmBits_evtValid : (rearmBits s).evtValid = false := rfl
@[simp] theorem rearmBits_evtStatus : (rearmBits s).evtStatus = s.evtStatus := rfl
@[simp] theorem rearmBits_evtData : (rearmBits s).evtData = s.evtData := rfl
@[simp] theorem rearmBits_isrActive : (rearmBits s).isrActive = s.isrActive := rfl
@[simp] theorem rearmBits_rxData : (rearmBits s).rxData = s.rxData := rfl
@[simp] theorem rearmBits_seqCmd : (rearmBits s).seqCmd = s.seqCmd := rfl
@[simp] theorem rearmBits_seqPc : (rearmBits s).seqPc = s.seqPc := rfl
@[simp] theorem rearmBits_cmdAngle : (rearmBits s).cmdAngle = s.cmdAngle := rfl
@[simp] theorem rearmBits_ocr : (rearmBits s).ocr = s.ocr := rfl
@[simp] theorem rearmBits_pwmActive : (rearmBits s).pwmActive = s.pwmActive := rfl
@[simp] theorem rearmBits_led : (rearmBits s).led = s.led := rfl
@[simp] theorem rearmBits_tglPending : (rearmBits s).tglPending = s.tglPending := rfl
@[simp] theorem rearmBits_tglTmp : (rearmBits s).tglTmp = s.tglTmp := rfl
@[simp] theorem rearmBits_trace : (rearmBits s).trace = s.trace := rfl
@[simp] theorem rearmBits_eventCount : (rearmBits s).eventCount = s.eventCount := rfl
@[simp] theorem rearmBits_rearmCount : (rearmBits s).rearmCount = s.rearmCount := rfl
@[simp] theorem rearmBits_env : (rearmBits s).env = s.env := rfl

end rearmBits

section armAtBoot

variable (s : State)

@[simp] theorem armAtBoot_brxState : (armAtBoot s).brxState = s.brxState := rfl
@[simp] theorem armAtBoot_armed : (armAtBoot s).armed = true := rfl
@[simp] theorem armAtBoot_ackEn : (armAtBoot s).ackEn = true := rfl
@[simp] theorem armAtBoot_evtValid : (armAtBoot s).evtValid = s.evtValid := rfl
@[simp] theorem armAtBoot_evtStatus : (armAtBoot s).evtStatus = s.evtStatus := rfl
@[simp] theorem armAtBoot_evtData : (armAtBoot s).evtData = s.evtData := rfl
@[simp] theorem armAtBoot_isrActive : (armAtBoot s).isrActive = s.isrActive := rfl
@[simp] theorem armAtBoot_rxData : (armAtBoot s).rxData = s.rxData := rfl
@[simp] theorem armAtBoot_seqCmd : (armAtBoot s).seqCmd = s.seqCmd := rfl
@[simp] theorem armAtBoot_seqPc : (armAtBoot s).seqPc = s.seqPc := rfl
@[simp] theorem armAtBoot_cmdAngle : (armAtBoot s).cmdAngle = s.cmdAngle := rfl
@[simp] theorem armAtBoot_ocr : (armAtBoot s).ocr = s.ocr := rfl
@[simp] theorem armAtBoot_pwmActive : (armAtBoot s).pwmActive = s.pwmActive := rfl
@[simp] theorem armAtBoot_led : (armAtBoot s).led = s.led := rfl
@[simp] theorem armAtBoot_tglPending : (armAtBoot s).tglPending = s.tglPending := rfl
@[simp] theorem armAtBoot_tglTmp : (armAtBoot s).tglTmp = s.tglTmp := rfl
@[simp] theorem armAtBoot_trace : (armAtBoot s).trace = s.trace := rfl
@[simp] theorem armAtBoot_eventCount : (armAtBoot s).eventCount = s.eventCount := rfl
@[simp] theorem armAtBoot_rearmCount : (armAtBoot s).rearmCount = s.rearmCount := rfl
@[simp] theorem armAtBoot_env : (armAtBoot s).env = s.env := rfl

end armAtBoot

section setIsrActive

variable (b : Bool) (s : State)

@[simp] theorem setIsrActive_brxState : (setIsrActive b s).brxState = s.brxState := rfl
@[simp] theorem setIsrActive_armed : (setIsrActive b s).armed = s.armed := rfl
@[simp] theorem setIsrActive_ackEn : (setIsrActive b s).ackEn = s.ackEn := rfl
@[simp] theorem setIsrActive_evtValid : (setIsrActive b s).evtValid = s.evtValid := rfl
@[simp] theorem setIsrActive_evtStatus : (setIsrActive b s).evtStatus = s.evtStatus := rfl
@[simp] theorem setIsrActive_evtData : (setIsrActive b s).evtData = s.evtData := rfl
@[simp] theorem setIsrActive_isrActive : (setIsrActive b s).isrActive = b := rfl
@[simp] theorem setIsrActive_rxData : (setIsrActive b s).rxData = s.rxData := rfl
@[simp] theorem setIsrActive_seqCmd : (setIsrActive b s).seqCmd = s.seqCmd := rfl
@[simp] theorem setIsrActive_seqPc : (setIsrActive b s).seqPc = s.seqPc := rfl
@[simp] theorem setIsrActive_cmdAngle : (setIsrActive b s).cmdAngle = s.cmdAngle := rfl
@[simp] theorem setIsrActive_ocr : (setIsrActive b s).ocr = s.ocr := rfl
@[simp] theorem setIsrActive_pwmActive : (setIsrActive b s).pwmActive = s.pwmActive := rfl
@[simp] theorem setIsrActive_led : (setIsrActive b s).led = s.led := rfl
@[simp] theorem setIsrActive_tglPending : (setIsrActive b s).tglPending = s.tglPending := rfl
@[simp] theorem setIsrActive_tglTmp : (setIsrActive b s).tglTmp = s.tglTmp := rfl
@[simp] theorem setIsrActive_trace : (setIsrActive b s).trace = s.trace := rfl
@[simp] theorem setIsrActive_eventCount : (setIsrActive b s).eventCount = s.eventCount := rfl
@[simp] theorem setIsrActive_rearmCount : (setIsrActive b s).rearmCount = s.rearmCount := rfl
@[simp] theorem setIsrActive_env : (setIsrActive b s).env = s.env := rfl

end setIsrActive

section holdToggle

variable (s : State)

@[simp] theorem holdToggle_brxState : (holdToggle s).brxState = s.brxState := rfl
@[simp] theorem holdToggle_armed : (holdToggle s).armed = s.armed := rfl
@[simp] theorem holdToggle_ackEn : (holdToggle s).ackEn = s.ackEn := rfl
@[simp] theorem holdToggle_evtValid : (holdToggle s).evtValid = s.evtValid := rfl
@[simp] theorem holdToggle_evtStatus : (holdToggle s).evtStatus = s.evtStatus := rfl
@[simp] theorem holdToggle_evtData : (holdToggle s).evtData = s.evtData := rfl
@[simp] theorem holdToggle_isrActive : (holdToggle s).isrActive = s.isrActive := rfl
@[simp] theorem holdToggle_rxData : (holdToggle s).rxData = s.rxData := rfl
@[simp] theorem holdToggle_seqCmd : (holdToggle s).seqCmd = s.seqCmd := rfl
@[simp] theorem holdToggle_seqPc : (holdToggle s).seqPc = s.seqPc := rfl
@[simp] theorem holdToggle_cmdAngle : (holdToggle s).cmdAngle = s.cmdAngle := rfl
@[simp] theorem holdToggle_ocr : (holdToggle s).ocr = s.ocr := rfl
@[simp] theorem holdToggle_pwmActive : (holdToggle s).pwmActive = s.pwmActive := rfl
@[simp] theorem holdToggle_led : (holdToggle s).led = s.led := rfl
@[simp] theorem holdToggle_tglPending : (holdToggle s).tglPending = true := rfl
@[simp] theorem holdToggle_tglTmp : (holdToggle s).tglTmp = s.led := rfl
@[simp] theorem holdToggle_trace : (holdToggle s).trace = s.trace := rfl
@[simp] theorem holdToggle_eventCount : (holdToggle s).eventCount = s.eventCount := rfl
@[simp] theorem holdToggle_rearmCount : (holdToggle s).rearmCount = s.rearmCount := rfl
@[simp] theorem holdToggle_env : (holdToggle s).env = s.env := rfl

end holdToggle

section clearToggle

variable (s : State)

@[simp] theorem clearToggle_brxState : (clearToggle s).brxState = s.brxState := rfl
@[simp] theorem clearToggle_armed : (clearToggle s).armed = s.armed := rfl
@[simp] theorem clearToggle_ackEn : (clearToggle s).ackEn = s.ackEn := rfl
@[simp] theorem clearToggle_evtValid : (clearToggle s).evtValid = s.evtValid := rfl
@[simp] theorem clearToggle_evtStatus : (clearToggle s).evtStatus = s.evtStatus := rfl
@[simp] theorem clearToggle_evtData : (clearToggle s).evtData = s.evtData := rfl
@[simp] theorem clearToggle_isrActive : (clearToggle s).isrActive = s.isrActive := rfl
@[simp] theorem clearToggle_rxData : (clearToggle s).rxData = s.rxData := rfl
@[simp] theorem clearToggle_seqCmd : (clearToggle s).seqCmd = s.seqCmd := rfl
@[simp] theorem clearToggle_seqPc : (clearToggle s).seqPc = s.seqPc := rfl
@[simp] theorem clearToggle_cmdAngle : (clearToggle s).cmdAngle = s.cmdAngle := rfl
@[simp] theorem clearToggle_ocr : (clearToggle s).ocr = s.ocr := rfl
@[simp] theorem clearToggle_pwmActive : (clearToggle s).pwmActive = s.pwmActive := rfl
@[simp] theorem clearToggle_led : (clearToggle s).led = s.led := rfl
@[simp] theorem clearToggle_tglPending : (clearToggle s).tglPending = false := rfl
@[simp] theorem clearToggle_tglTmp : (clearToggle s).tglTmp = s.tglTmp := rfl
@[simp] theorem clearToggle_trace : (clearToggle s).trace = s.trace := rfl
@[simp] theorem clearToggle_eventCount : (clearToggle s).eventCount = s.eventCount := rfl
@[simp] theorem clearToggle_rearmCount : (clearToggle s).rearmCount = s.rearmCount := rfl
@[simp] theorem clearToggle_env : (clearToggle s).env = s.env := rfl

end clearToggle

section emit

variable (a : Action) (s : State)

@[simp] theorem emit_brxState : (emit a s).brxState = s.brxState := rfl
@[simp] theorem emit_armed : (emit a s).armed = s.armed := rfl
@[simp] theorem emit_ackEn : (emit a s).ackEn = s.ackEn := rfl
@[simp] theorem emit_evtValid : (emit a s).evtValid = s.evtValid := rfl
@[simp] theorem emit_evtStatus : (emit a s).evtStatus = s.evtStatus := rfl
@[simp] theorem emit_evtData : (emit a s).evtData = s.evtData := rfl
@[simp] theorem emit_isrActive : (emit a s).isrActive = s.isrActive := rfl
@[simp] theorem emit_rxData : (emit a s).rxData = s.rxData := rfl
@[simp] theorem emit_seqCmd : (emit a s).seqCmd = s.seqCmd := rfl
@[simp] theorem emit_seqPc : (emit a s).seqPc = s.seqPc := rfl
@[simp] theorem emit_cmdAngle : (emit a s).cmdAngle = s.cmdAngle := rfl
@[simp] theorem emit_ocr : (emit a s).ocr = s.ocr := rfl
@[simp] theorem emit_pwmActive : (emit a s).pwmActive = s.pwmActive := rfl
@[simp] theorem emit_led : (emit a s).led = s.led := rfl
@[simp] theorem emit_tglPending : (emit a s).tglPending = s.tglPending := rfl
@[simp] theorem emit_tglTmp : (emit a s).tglTmp = s.tglTmp := rfl
@[simp] theorem emit_trace : (emit a s).trace = s.trace ++ [a] := rfl
@[simp] theorem emit_eventCount : (emit a s).eventCount = s.eventCount := rfl
@[simp] theorem emit_rearmCount : (emit a s).rearmCount = s.rearmCount := rfl
@[simp] theorem emit_env : (emit a s).env = s.env := rfl

end emit

section ioWriteOcr

variable (v : OcrWord) (s : State)

@[simp] theorem ioWriteOcr_brxState : (ioWriteOcr v s).brxState = s.brxState := rfl
@[simp] theorem ioWriteOcr_armed : (ioWriteOcr v s).armed = s.armed := rfl
@[simp] theorem ioWriteOcr_ackEn : (ioWriteOcr v s).ackEn = s.ackEn := rfl
@[simp] theorem ioWriteOcr_evtValid : (ioWriteOcr v s).evtValid = s.evtValid := rfl
@[simp] theorem ioWriteOcr_evtStatus : (ioWriteOcr v s).evtStatus = s.evtStatus := rfl
@[simp] theorem ioWriteOcr_evtData : (ioWriteOcr v s).evtData = s.evtData := rfl
@[simp] theorem ioWriteOcr_isrActive : (ioWriteOcr v s).isrActive = s.isrActive := rfl
@[simp] theorem ioWriteOcr_rxData : (ioWriteOcr v s).rxData = s.rxData := rfl
@[simp] theorem ioWriteOcr_seqCmd : (ioWriteOcr v s).seqCmd = s.seqCmd := rfl
@[simp] theorem ioWriteOcr_seqPc : (ioWriteOcr v s).seqPc = s.seqPc := rfl
@[simp] theorem ioWriteOcr_cmdAngle : (ioWriteOcr v s).cmdAngle = s.cmdAngle := rfl
@[simp] theorem ioWriteOcr_ocr : (ioWriteOcr v s).ocr = v := rfl
@[simp] theorem ioWriteOcr_pwmActive : (ioWriteOcr v s).pwmActive = s.pwmActive := rfl
@[simp] theorem ioWriteOcr_led : (ioWriteOcr v s).led = s.led := rfl
@[simp] theorem ioWriteOcr_tglPending : (ioWriteOcr v s).tglPending = s.tglPending := rfl
@[simp] theorem ioWriteOcr_tglTmp : (ioWriteOcr v s).tglTmp = s.tglTmp := rfl
@[simp] theorem ioWriteOcr_trace : (ioWriteOcr v s).trace = s.trace := rfl
@[simp] theorem ioWriteOcr_eventCount : (ioWriteOcr v s).eventCount = s.eventCount := rfl
@[simp] theorem ioWriteOcr_rearmCount : (ioWriteOcr v s).rearmCount = s.rearmCount := rfl
@[simp] theorem ioWriteOcr_env : (ioWriteOcr v s).env = s.env := rfl

end ioWriteOcr

section ioWriteLed

variable (b : Bool) (s : State)

@[simp] theorem ioWriteLed_brxState : (ioWriteLed b s).brxState = s.brxState := rfl
@[simp] theorem ioWriteLed_armed : (ioWriteLed b s).armed = s.armed := rfl
@[simp] theorem ioWriteLed_ackEn : (ioWriteLed b s).ackEn = s.ackEn := rfl
@[simp] theorem ioWriteLed_evtValid : (ioWriteLed b s).evtValid = s.evtValid := rfl
@[simp] theorem ioWriteLed_evtStatus : (ioWriteLed b s).evtStatus = s.evtStatus := rfl
@[simp] theorem ioWriteLed_evtData : (ioWriteLed b s).evtData = s.evtData := rfl
@[simp] theorem ioWriteLed_isrActive : (ioWriteLed b s).isrActive = s.isrActive := rfl
@[simp] theorem ioWriteLed_rxData : (ioWriteLed b s).rxData = s.rxData := rfl
@[simp] theorem ioWriteLed_seqCmd : (ioWriteLed b s).seqCmd = s.seqCmd := rfl
@[simp] theorem ioWriteLed_seqPc : (ioWriteLed b s).seqPc = s.seqPc := rfl
@[simp] theorem ioWriteLed_cmdAngle : (ioWriteLed b s).cmdAngle = s.cmdAngle := rfl
@[simp] theorem ioWriteLed_ocr : (ioWriteLed b s).ocr = s.ocr := rfl
@[simp] theorem ioWriteLed_pwmActive : (ioWriteLed b s).pwmActive = s.pwmActive := rfl
@[simp] theorem ioWriteLed_led : (ioWriteLed b s).led = b := rfl
@[simp] theorem ioWriteLed_tglPending : (ioWriteLed b s).tglPending = s.tglPending := rfl
@[simp] theorem ioWriteLed_tglTmp : (ioWriteLed b s).tglTmp = s.tglTmp := rfl
@[simp] theorem ioWriteLed_trace : (ioWriteLed b s).trace = s.trace := rfl
@[simp] theorem ioWriteLed_eventCount : (ioWriteLed b s).eventCount = s.eventCount := rfl
@[simp] theorem ioWriteLed_rearmCount : (ioWriteLed b s).rearmCount = s.rearmCount := rfl
@[simp] theorem ioWriteLed_env : (ioWriteLed b s).env = s.env := rfl

end ioWriteLed

section setCmdAngle

variable (a : Angle) (s : State)

@[simp] theorem setCmdAngle_brxState : (setCmdAngle a s).brxState = s.brxState := rfl
@[simp] theorem setCmdAngle_armed : (setCmdAngle a s).armed = s.armed := rfl
@[simp] theorem setCmdAngle_ackEn : (setCmdAngle a s).ackEn = s.ackEn := rfl
@[simp] theorem setCmdAngle_evtValid : (setCmdAngle a s).evtValid = s.evtValid := rfl
@[simp] theorem setCmdAngle_evtStatus : (setCmdAngle a s).evtStatus = s.evtStatus := rfl
@[simp] theorem setCmdAngle_evtData : (setCmdAngle a s).evtData = s.evtData := rfl
@[simp] theorem setCmdAngle_isrActive : (setCmdAngle a s).isrActive = s.isrActive := rfl
@[simp] theorem setCmdAngle_rxData : (setCmdAngle a s).rxData = s.rxData := rfl
@[simp] theorem setCmdAngle_seqCmd : (setCmdAngle a s).seqCmd = s.seqCmd := rfl
@[simp] theorem setCmdAngle_seqPc : (setCmdAngle a s).seqPc = s.seqPc := rfl
@[simp] theorem setCmdAngle_cmdAngle : (setCmdAngle a s).cmdAngle = a := rfl
@[simp] theorem setCmdAngle_ocr : (setCmdAngle a s).ocr = s.ocr := rfl
@[simp] theorem setCmdAngle_pwmActive : (setCmdAngle a s).pwmActive = s.pwmActive := rfl
@[simp] theorem setCmdAngle_led : (setCmdAngle a s).led = s.led := rfl
@[simp] theorem setCmdAngle_tglPending : (setCmdAngle a s).tglPending = s.tglPending := rfl
@[simp] theorem setCmdAngle_tglTmp : (setCmdAngle a s).tglTmp = s.tglTmp := rfl
@[simp] theorem setCmdAngle_trace : (setCmdAngle a s).trace = s.trace := rfl
@[simp] theorem setCmdAngle_eventCount : (setCmdAngle a s).eventCount = s.eventCount := rfl
@[simp] theorem setCmdAngle_rearmCount : (setCmdAngle a s).rearmCount = s.rearmCount := rfl
@[simp] theorem setCmdAngle_env : (setCmdAngle a s).env = s.env := rfl

end setCmdAngle

section latchPulse

variable (s : State)

@[simp] theorem latchPulse_brxState : (latchPulse s).brxState = s.brxState := rfl
@[simp] theorem latchPulse_armed : (latchPulse s).armed = s.armed := rfl
@[simp] theorem latchPulse_ackEn : (latchPulse s).ackEn = s.ackEn := rfl
@[simp] theorem latchPulse_evtValid : (latchPulse s).evtValid = s.evtValid := rfl
@[simp] theorem latchPulse_evtStatus : (latchPulse s).evtStatus = s.evtStatus := rfl
@[simp] theorem latchPulse_evtData : (latchPulse s).evtData = s.evtData := rfl
@[simp] theorem latchPulse_isrActive : (latchPulse s).isrActive = s.isrActive := rfl
@[simp] theorem latchPulse_rxData : (latchPulse s).rxData = s.rxData := rfl
@[simp] theorem latchPulse_seqCmd : (latchPulse s).seqCmd = s.seqCmd := rfl
@[simp] theorem latchPulse_seqPc : (latchPulse s).seqPc = s.seqPc := rfl
@[simp] theorem latchPulse_cmdAngle : (latchPulse s).cmdAngle = s.cmdAngle := rfl
@[simp] theorem latchPulse_ocr : (latchPulse s).ocr = s.ocr := rfl
@[simp] theorem latchPulse_pwmActive : (latchPulse s).pwmActive = s.ocr := rfl
@[simp] theorem latchPulse_led : (latchPulse s).led = s.led := rfl
@[simp] theorem latchPulse_tglPending : (latchPulse s).tglPending = s.tglPending := rfl
@[simp] theorem latchPulse_tglTmp : (latchPulse s).tglTmp = s.tglTmp := rfl
@[simp] theorem latchPulse_trace : (latchPulse s).trace = s.trace := rfl
@[simp] theorem latchPulse_eventCount : (latchPulse s).eventCount = s.eventCount := rfl
@[simp] theorem latchPulse_rearmCount : (latchPulse s).rearmCount = s.rearmCount := rfl
@[simp] theorem latchPulse_env : (latchPulse s).env = s.env := rfl

end latchPulse

section latchEvent

variable (e : BusEvent) (s : State)

@[simp] theorem latchEvent_brxState : (latchEvent e s).brxState = s.brxState := rfl
@[simp] theorem latchEvent_armed : (latchEvent e s).armed = s.armed := rfl
@[simp] theorem latchEvent_ackEn : (latchEvent e s).ackEn = s.ackEn := rfl
@[simp] theorem latchEvent_evtValid : (latchEvent e s).evtValid = s.evtValid := rfl
@[simp] theorem latchEvent_evtStatus : (latchEvent e s).evtStatus = e.status := rfl
@[simp] theorem latchEvent_evtData : (latchEvent e s).evtData = e.data := rfl
@[simp] theorem latchEvent_isrActive : (latchEvent e s).isrActive = s.isrActive := rfl
@[simp] theorem latchEvent_rxData : (latchEvent e s).rxData = s.rxData := rfl
@[simp] theorem latchEvent_seqCmd : (latchEvent e s).seqCmd = s.seqCmd := rfl
@[simp] theorem latchEvent_seqPc : (latchEvent e s).seqPc = s.seqPc := rfl
@[simp] theorem latchEvent_cmdAngle : (latchEvent e s).cmdAngle = s.cmdAngle := rfl
@[simp] theorem latchEvent_ocr : (latchEvent e s).ocr = s.ocr := rfl
@[simp] theorem latchEvent_pwmActive : (latchEvent e s).pwmActive = s.pwmActive := rfl
@[simp] theorem latchEvent_led : (latchEvent e s).led = s.led := rfl
@[simp] theorem latchEvent_tglPending : (latchEvent e s).tglPending = s.tglPending := rfl
@[simp] theorem latchEvent_tglTmp : (latchEvent e s).tglTmp = s.tglTmp := rfl
@[simp] theorem latchEvent_trace : (latchEvent e s).trace = s.trace := rfl
@[simp] theorem latchEvent_eventCount : (latchEvent e s).eventCount = s.eventCount := rfl
@[simp] theorem latchEvent_rearmCount : (latchEvent e s).rearmCount = s.rearmCount := rfl
@[simp] theorem latchEvent_env : (latchEvent e s).env = s.env := rfl

end latchEvent

section setBrxState

variable (b : BrxState) (s : State)

@[simp] theorem setBrxState_brxState : (setBrxState b s).brxState = b := rfl
@[simp] theorem setBrxState_armed : (setBrxState b s).armed = s.armed := rfl
@[simp] theorem setBrxState_ackEn : (setBrxState b s).ackEn = s.ackEn := rfl
@[simp] theorem setBrxState_evtValid : (setBrxState b s).evtValid = s.evtValid := rfl
@[simp] theorem setBrxState_evtStatus : (setBrxState b s).evtStatus = s.evtStatus := rfl
@[simp] theorem setBrxState_evtData : (setBrxState b s).evtData = s.evtData := rfl
@[simp] theorem setBrxState_isrActive : (setBrxState b s).isrActive = s.isrActive := rfl
@[simp] theorem setBrxState_rxData : (setBrxState b s).rxData = s.rxData := rfl
@[simp] theorem setBrxState_seqCmd : (setBrxState b s).seqCmd = s.seqCmd := rfl
@[simp] theorem setBrxState_seqPc : (setBrxState b s).seqPc = s.seqPc := rfl
@[simp] theorem setBrxState_cmdAngle : (setBrxState b s).cmdAngle = s.cmdAngle := rfl
@[simp] theorem setBrxState_ocr : (setBrxState b s).ocr = s.ocr := rfl
@[simp] theorem setBrxState_pwmActive : (setBrxState b s).pwmActive = s.pwmActive := rfl
@[simp] theorem setBrxState_led : (setBrxState b s).led = s.led := rfl
@[simp] theorem setBrxState_tglPending : (setBrxState b s).tglPending = s.tglPending := rfl
@[simp] theorem setBrxState_tglTmp : (setBrxState b s).tglTmp = s.tglTmp := rfl
@[simp] theorem setBrxState_trace : (setBrxState b s).trace = s.trace := rfl
@[simp] theorem setBrxState_eventCount : (setBrxState b s).eventCount = s.eventCount := rfl
@[simp] theorem setBrxState_rearmCount : (setBrxState b s).rearmCount = s.rearmCount := rfl
@[simp] theorem setBrxState_env : (setBrxState b s).env = s.env := rfl

end setBrxState

section setRxData

variable (b : Byte) (s : State)

@[simp] theorem setRxData_brxState : (setRxData b s).brxState = s.brxState := rfl
@[simp] theorem setRxData_armed : (setRxData b s).armed = s.armed := rfl
@[simp] theorem setRxData_ackEn : (setRxData b s).ackEn = s.ackEn := rfl
@[simp] theorem setRxData_evtValid : (setRxData b s).evtValid = s.evtValid := rfl
@[simp] theorem setRxData_evtStatus : (setRxData b s).evtStatus = s.evtStatus := rfl
@[simp] theorem setRxData_evtData : (setRxData b s).evtData = s.evtData := rfl
@[simp] theorem setRxData_isrActive : (setRxData b s).isrActive = s.isrActive := rfl
@[simp] theorem setRxData_rxData : (setRxData b s).rxData = b := rfl
@[simp] theorem setRxData_seqCmd : (setRxData b s).seqCmd = s.seqCmd := rfl
@[simp] theorem setRxData_seqPc : (setRxData b s).seqPc = s.seqPc := rfl
@[simp] theorem setRxData_cmdAngle : (setRxData b s).cmdAngle = s.cmdAngle := rfl
@[simp] theorem setRxData_ocr : (setRxData b s).ocr = s.ocr := rfl
@[simp] theorem setRxData_pwmActive : (setRxData b s).pwmActive = s.pwmActive := rfl
@[simp] theorem setRxData_led : (setRxData b s).led = s.led := rfl
@[simp] theorem setRxData_tglPending : (setRxData b s).tglPending = s.tglPending := rfl
@[simp] theorem setRxData_tglTmp : (setRxData b s).tglTmp = s.tglTmp := rfl
@[simp] theorem setRxData_trace : (setRxData b s).trace = s.trace := rfl
@[simp] theorem setRxData_eventCount : (setRxData b s).eventCount = s.eventCount := rfl
@[simp] theorem setRxData_rearmCount : (setRxData b s).rearmCount = s.rearmCount := rfl
@[simp] theorem setRxData_env : (setRxData b s).env = s.env := rfl

end setRxData

section loadSequence

variable (c : Option Behaviour) (s : State)

@[simp] theorem loadSequence_brxState : (loadSequence c s).brxState = s.brxState := rfl
@[simp] theorem loadSequence_armed : (loadSequence c s).armed = s.armed := rfl
@[simp] theorem loadSequence_ackEn : (loadSequence c s).ackEn = s.ackEn := rfl
@[simp] theorem loadSequence_evtValid : (loadSequence c s).evtValid = s.evtValid := rfl
@[simp] theorem loadSequence_evtStatus : (loadSequence c s).evtStatus = s.evtStatus := rfl
@[simp] theorem loadSequence_evtData : (loadSequence c s).evtData = s.evtData := rfl
@[simp] theorem loadSequence_isrActive : (loadSequence c s).isrActive = s.isrActive := rfl
@[simp] theorem loadSequence_rxData : (loadSequence c s).rxData = s.rxData := rfl
@[simp] theorem loadSequence_seqCmd : (loadSequence c s).seqCmd = c := rfl
@[simp] theorem loadSequence_seqPc : (loadSequence c s).seqPc = 0 := rfl
@[simp] theorem loadSequence_cmdAngle : (loadSequence c s).cmdAngle = s.cmdAngle := rfl
@[simp] theorem loadSequence_ocr : (loadSequence c s).ocr = s.ocr := rfl
@[simp] theorem loadSequence_pwmActive : (loadSequence c s).pwmActive = s.pwmActive := rfl
@[simp] theorem loadSequence_led : (loadSequence c s).led = s.led := rfl
@[simp] theorem loadSequence_tglPending : (loadSequence c s).tglPending = s.tglPending := rfl
@[simp] theorem loadSequence_tglTmp : (loadSequence c s).tglTmp = s.tglTmp := rfl
@[simp] theorem loadSequence_trace : (loadSequence c s).trace = s.trace := rfl
@[simp] theorem loadSequence_eventCount : (loadSequence c s).eventCount = s.eventCount := rfl
@[simp] theorem loadSequence_rearmCount : (loadSequence c s).rearmCount = s.rearmCount := rfl
@[simp] theorem loadSequence_env : (loadSequence c s).env = s.env := rfl

end loadSequence

section setSeqPc

variable (n : SeqIndex) (s : State)

@[simp] theorem setSeqPc_brxState : (setSeqPc n s).brxState = s.brxState := rfl
@[simp] theorem setSeqPc_armed : (setSeqPc n s).armed = s.armed := rfl
@[simp] theorem setSeqPc_ackEn : (setSeqPc n s).ackEn = s.ackEn := rfl
@[simp] theorem setSeqPc_evtValid : (setSeqPc n s).evtValid = s.evtValid := rfl
@[simp] theorem setSeqPc_evtStatus : (setSeqPc n s).evtStatus = s.evtStatus := rfl
@[simp] theorem setSeqPc_evtData : (setSeqPc n s).evtData = s.evtData := rfl
@[simp] theorem setSeqPc_isrActive : (setSeqPc n s).isrActive = s.isrActive := rfl
@[simp] theorem setSeqPc_rxData : (setSeqPc n s).rxData = s.rxData := rfl
@[simp] theorem setSeqPc_seqCmd : (setSeqPc n s).seqCmd = s.seqCmd := rfl
@[simp] theorem setSeqPc_seqPc : (setSeqPc n s).seqPc = n := rfl
@[simp] theorem setSeqPc_cmdAngle : (setSeqPc n s).cmdAngle = s.cmdAngle := rfl
@[simp] theorem setSeqPc_ocr : (setSeqPc n s).ocr = s.ocr := rfl
@[simp] theorem setSeqPc_pwmActive : (setSeqPc n s).pwmActive = s.pwmActive := rfl
@[simp] theorem setSeqPc_led : (setSeqPc n s).led = s.led := rfl
@[simp] theorem setSeqPc_tglPending : (setSeqPc n s).tglPending = s.tglPending := rfl
@[simp] theorem setSeqPc_tglTmp : (setSeqPc n s).tglTmp = s.tglTmp := rfl
@[simp] theorem setSeqPc_trace : (setSeqPc n s).trace = s.trace := rfl
@[simp] theorem setSeqPc_eventCount : (setSeqPc n s).eventCount = s.eventCount := rfl
@[simp] theorem setSeqPc_rearmCount : (setSeqPc n s).rearmCount = s.rearmCount := rfl
@[simp] theorem setSeqPc_env : (setSeqPc n s).env = s.env := rfl

end setSeqPc

section advanceSeqPc

variable (s : State)

@[simp] theorem advanceSeqPc_brxState : (advanceSeqPc s).brxState = s.brxState := rfl
@[simp] theorem advanceSeqPc_armed : (advanceSeqPc s).armed = s.armed := rfl
@[simp] theorem advanceSeqPc_ackEn : (advanceSeqPc s).ackEn = s.ackEn := rfl
@[simp] theorem advanceSeqPc_evtValid : (advanceSeqPc s).evtValid = s.evtValid := rfl
@[simp] theorem advanceSeqPc_evtStatus : (advanceSeqPc s).evtStatus = s.evtStatus := rfl
@[simp] theorem advanceSeqPc_evtData : (advanceSeqPc s).evtData = s.evtData := rfl
@[simp] theorem advanceSeqPc_isrActive : (advanceSeqPc s).isrActive = s.isrActive := rfl
@[simp] theorem advanceSeqPc_rxData : (advanceSeqPc s).rxData = s.rxData := rfl
@[simp] theorem advanceSeqPc_seqCmd : (advanceSeqPc s).seqCmd = s.seqCmd := rfl
@[simp] theorem advanceSeqPc_seqPc : (advanceSeqPc s).seqPc = s.seqPc + 1 := rfl
@[simp] theorem advanceSeqPc_cmdAngle : (advanceSeqPc s).cmdAngle = s.cmdAngle := rfl
@[simp] theorem advanceSeqPc_ocr : (advanceSeqPc s).ocr = s.ocr := rfl
@[simp] theorem advanceSeqPc_pwmActive : (advanceSeqPc s).pwmActive = s.pwmActive := rfl
@[simp] theorem advanceSeqPc_led : (advanceSeqPc s).led = s.led := rfl
@[simp] theorem advanceSeqPc_tglPending : (advanceSeqPc s).tglPending = s.tglPending := rfl
@[simp] theorem advanceSeqPc_tglTmp : (advanceSeqPc s).tglTmp = s.tglTmp := rfl
@[simp] theorem advanceSeqPc_trace : (advanceSeqPc s).trace = s.trace := rfl
@[simp] theorem advanceSeqPc_eventCount : (advanceSeqPc s).eventCount = s.eventCount := rfl
@[simp] theorem advanceSeqPc_rearmCount : (advanceSeqPc s).rearmCount = s.rearmCount := rfl
@[simp] theorem advanceSeqPc_env : (advanceSeqPc s).env = s.env := rfl

end advanceSeqPc

section countEvent

variable (s : State)

@[simp] theorem countEvent_brxState : (countEvent s).brxState = s.brxState := rfl
@[simp] theorem countEvent_armed : (countEvent s).armed = s.armed := rfl
@[simp] theorem countEvent_ackEn : (countEvent s).ackEn = s.ackEn := rfl
@[simp] theorem countEvent_evtValid : (countEvent s).evtValid = s.evtValid := rfl
@[simp] theorem countEvent_evtStatus : (countEvent s).evtStatus = s.evtStatus := rfl
@[simp] theorem countEvent_evtData : (countEvent s).evtData = s.evtData := rfl
@[simp] theorem countEvent_isrActive : (countEvent s).isrActive = s.isrActive := rfl
@[simp] theorem countEvent_rxData : (countEvent s).rxData = s.rxData := rfl
@[simp] theorem countEvent_seqCmd : (countEvent s).seqCmd = s.seqCmd := rfl
@[simp] theorem countEvent_seqPc : (countEvent s).seqPc = s.seqPc := rfl
@[simp] theorem countEvent_cmdAngle : (countEvent s).cmdAngle = s.cmdAngle := rfl
@[simp] theorem countEvent_ocr : (countEvent s).ocr = s.ocr := rfl
@[simp] theorem countEvent_pwmActive : (countEvent s).pwmActive = s.pwmActive := rfl
@[simp] theorem countEvent_led : (countEvent s).led = s.led := rfl
@[simp] theorem countEvent_tglPending : (countEvent s).tglPending = s.tglPending := rfl
@[simp] theorem countEvent_tglTmp : (countEvent s).tglTmp = s.tglTmp := rfl
@[simp] theorem countEvent_trace : (countEvent s).trace = s.trace := rfl
@[simp] theorem countEvent_eventCount : (countEvent s).eventCount = s.eventCount + 1 := rfl
@[simp] theorem countEvent_rearmCount : (countEvent s).rearmCount = s.rearmCount := rfl
@[simp] theorem countEvent_env : (countEvent s).env = s.env := rfl

end countEvent

section countRearm

variable (s : State)

@[simp] theorem countRearm_brxState : (countRearm s).brxState = s.brxState := rfl
@[simp] theorem countRearm_armed : (countRearm s).armed = s.armed := rfl
@[simp] theorem countRearm_ackEn : (countRearm s).ackEn = s.ackEn := rfl
@[simp] theorem countRearm_evtValid : (countRearm s).evtValid = s.evtValid := rfl
@[simp] theorem countRearm_evtStatus : (countRearm s).evtStatus = s.evtStatus := rfl
@[simp] theorem countRearm_evtData : (countRearm s).evtData = s.evtData := rfl
@[simp] theorem countRearm_isrActive : (countRearm s).isrActive = s.isrActive := rfl
@[simp] theorem countRearm_rxData : (countRearm s).rxData = s.rxData := rfl
@[simp] theorem countRearm_seqCmd : (countRearm s).seqCmd = s.seqCmd := rfl
@[simp] theorem countRearm_seqPc : (countRearm s).seqPc = s.seqPc := rfl
@[simp] theorem countRearm_cmdAngle : (countRearm s).cmdAngle = s.cmdAngle := rfl
@[simp] theorem countRearm_ocr : (countRearm s).ocr = s.ocr := rfl
@[simp] theorem countRearm_pwmActive : (countRearm s).pwmActive = s.pwmActive := rfl
@[simp] theorem countRearm_led : (countRearm s).led = s.led := rfl
@[simp] theorem countRearm_tglPending : (countRearm s).tglPending = s.tglPending := rfl
@[simp] theorem countRearm_tglTmp : (countRearm s).tglTmp = s.tglTmp := rfl
@[simp] theorem countRearm_trace : (countRearm s).trace = s.trace := rfl
@[simp] theorem countRearm_eventCount : (countRearm s).eventCount = s.eventCount := rfl
@[simp] theorem countRearm_rearmCount : (countRearm s).rearmCount = s.rearmCount + 1 := rfl
@[simp] theorem countRearm_env : (countRearm s).env = s.env := rfl

end countRearm

section setEnv

variable (e : Env) (s : State)

@[simp] theorem setEnv_brxState : (setEnv e s).brxState = s.brxState := rfl
@[simp] theorem setEnv_armed : (setEnv e s).armed = s.armed := rfl
@[simp] theorem setEnv_ackEn : (setEnv e s).ackEn = s.ackEn := rfl
@[simp] theorem setEnv_evtValid : (setEnv e s).evtValid = s.evtValid := rfl
@[simp] theorem setEnv_evtStatus : (setEnv e s).evtStatus = s.evtStatus := rfl
@[simp] theorem setEnv_evtData : (setEnv e s).evtData = s.evtData := rfl
@[simp] theorem setEnv_isrActive : (setEnv e s).isrActive = s.isrActive := rfl
@[simp] theorem setEnv_rxData : (setEnv e s).rxData = s.rxData := rfl
@[simp] theorem setEnv_seqCmd : (setEnv e s).seqCmd = s.seqCmd := rfl
@[simp] theorem setEnv_seqPc : (setEnv e s).seqPc = s.seqPc := rfl
@[simp] theorem setEnv_cmdAngle : (setEnv e s).cmdAngle = s.cmdAngle := rfl
@[simp] theorem setEnv_ocr : (setEnv e s).ocr = s.ocr := rfl
@[simp] theorem setEnv_pwmActive : (setEnv e s).pwmActive = s.pwmActive := rfl
@[simp] theorem setEnv_led : (setEnv e s).led = s.led := rfl
@[simp] theorem setEnv_tglPending : (setEnv e s).tglPending = s.tglPending := rfl
@[simp] theorem setEnv_tglTmp : (setEnv e s).tglTmp = s.tglTmp := rfl
@[simp] theorem setEnv_trace : (setEnv e s).trace = s.trace := rfl
@[simp] theorem setEnv_eventCount : (setEnv e s).eventCount = s.eventCount := rfl
@[simp] theorem setEnv_rearmCount : (setEnv e s).rearmCount = s.rearmCount := rfl
@[simp] theorem setEnv_env : (setEnv e s).env = e := rfl

end setEnv

section takeDraw

variable (s : State)

@[simp] theorem takeDraw_brxState : (takeDraw s).brxState = s.brxState := rfl
@[simp] theorem takeDraw_armed : (takeDraw s).armed = s.armed := rfl
@[simp] theorem takeDraw_ackEn : (takeDraw s).ackEn = s.ackEn := rfl
@[simp] theorem takeDraw_evtValid : (takeDraw s).evtValid = s.evtValid := rfl
@[simp] theorem takeDraw_evtStatus : (takeDraw s).evtStatus = s.evtStatus := rfl
@[simp] theorem takeDraw_evtData : (takeDraw s).evtData = s.evtData := rfl
@[simp] theorem takeDraw_isrActive : (takeDraw s).isrActive = s.isrActive := rfl
@[simp] theorem takeDraw_rxData : (takeDraw s).rxData = s.rxData := rfl
@[simp] theorem takeDraw_seqCmd : (takeDraw s).seqCmd = s.seqCmd := rfl
@[simp] theorem takeDraw_seqPc : (takeDraw s).seqPc = s.seqPc := rfl
@[simp] theorem takeDraw_cmdAngle : (takeDraw s).cmdAngle = s.cmdAngle := rfl
@[simp] theorem takeDraw_ocr : (takeDraw s).ocr = s.ocr := rfl
@[simp] theorem takeDraw_pwmActive : (takeDraw s).pwmActive = s.pwmActive := rfl
@[simp] theorem takeDraw_led : (takeDraw s).led = s.led := rfl
@[simp] theorem takeDraw_tglPending : (takeDraw s).tglPending = s.tglPending := rfl
@[simp] theorem takeDraw_tglTmp : (takeDraw s).tglTmp = s.tglTmp := rfl
@[simp] theorem takeDraw_trace : (takeDraw s).trace = s.trace := rfl
@[simp] theorem takeDraw_eventCount : (takeDraw s).eventCount = s.eventCount := rfl
@[simp] theorem takeDraw_rearmCount : (takeDraw s).rearmCount = s.rearmCount := rfl
@[simp] theorem takeDraw_env : (takeDraw s).env = { s.env with draws := s.env.draws + 1 } := rfl

end takeDraw

section setPlaced

variable (w : Option InputWord) (s : State)

@[simp] theorem setPlaced_brxState : (setPlaced w s).brxState = s.brxState := rfl
@[simp] theorem setPlaced_armed : (setPlaced w s).armed = s.armed := rfl
@[simp] theorem setPlaced_ackEn : (setPlaced w s).ackEn = s.ackEn := rfl
@[simp] theorem setPlaced_evtValid : (setPlaced w s).evtValid = s.evtValid := rfl
@[simp] theorem setPlaced_evtStatus : (setPlaced w s).evtStatus = s.evtStatus := rfl
@[simp] theorem setPlaced_evtData : (setPlaced w s).evtData = s.evtData := rfl
@[simp] theorem setPlaced_isrActive : (setPlaced w s).isrActive = s.isrActive := rfl
@[simp] theorem setPlaced_rxData : (setPlaced w s).rxData = s.rxData := rfl
@[simp] theorem setPlaced_seqCmd : (setPlaced w s).seqCmd = s.seqCmd := rfl
@[simp] theorem setPlaced_seqPc : (setPlaced w s).seqPc = s.seqPc := rfl
@[simp] theorem setPlaced_cmdAngle : (setPlaced w s).cmdAngle = s.cmdAngle := rfl
@[simp] theorem setPlaced_ocr : (setPlaced w s).ocr = s.ocr := rfl
@[simp] theorem setPlaced_pwmActive : (setPlaced w s).pwmActive = s.pwmActive := rfl
@[simp] theorem setPlaced_led : (setPlaced w s).led = s.led := rfl
@[simp] theorem setPlaced_tglPending : (setPlaced w s).tglPending = s.tglPending := rfl
@[simp] theorem setPlaced_tglTmp : (setPlaced w s).tglTmp = s.tglTmp := rfl
@[simp] theorem setPlaced_trace : (setPlaced w s).trace = s.trace := rfl
@[simp] theorem setPlaced_eventCount : (setPlaced w s).eventCount = s.eventCount := rfl
@[simp] theorem setPlaced_rearmCount : (setPlaced w s).rearmCount = s.rearmCount := rfl
@[simp] theorem setPlaced_env : (setPlaced w s).env = { s.env with placed := w } := rfl

end setPlaced

end Sys2Proof.Machine
end

