-- ==== Sys2Proof/Laws/Sequence.lean ====
section
/-! SUPPORT. What one element does, what a list of elements does, and the sequences' lengths. -/

namespace Sys2Proof.Machine

@[simp] theorem isOcrWrite_ocrWrite (v : OcrWord) : (Action.ocrWrite v).isOcrWrite = true := rfl
@[simp] theorem isOcrWrite_rearm : Action.rearm.isOcrWrite = false := rfl
@[simp] theorem isOcrWrite_led (b : Bool) : (Action.led b).isOcrWrite = false := rfl
@[simp] theorem isOcrWrite_wait (n : Count) : (Action.wait n).isOcrWrite = false := rfl
@[simp] theorem isOcrWrite_mainLed (b : Bool) : (Action.mainLed b).isOcrWrite = false := rfl
@[simp] theorem isOcrWrite_pulse (v : OcrWord) : (Action.pulse v).isOcrWrite = false := rfl

/-- The generator alone emits pulses. -/
@[simp] theorem notPulse_primAction (p : Params) (u : Prim) : (primAction p u).notPulse = true := by
  cases u <;> rfl

/-- No element of a sequence re-arms (R110). -/
theorem primAction_ne_rearm (p : Params) (u : Prim) : primAction p u ≠ .rearm := by
  cases u <;> simp [primAction]

theorem moveTo_eq (p : Params) (a : Angle) (s : State) :
    moveTo p a s =
      { s with cmdAngle := clampedAngle a, ocr := pulseFor p a, trace := s.trace ++ [.ocrWrite (pulseFor p a)] } := rfl

theorem ledSet_eq (b : Bool) (s : State) :
    ledSet b s = { s with led := b, trace := s.trace ++ [.led b] } := rfl

theorem waitTicks_eq (n : Count) (s : State) :
    waitTicks n s = { s with trace := s.trace ++ [.wait n] } := rfl

/-- Everything an element can change is CMD_ANGLE, OCR, LED and TRACE, and it appends its one action. -/
theorem primEffect_spec (p : Params) (u : Prim) (s : State) :
    primEffect p u s =
      { s with
        cmdAngle := (primEffect p u s).cmdAngle
        ocr := (primEffect p u s).ocr
        led := (primEffect p u s).led
        trace := s.trace ++ [primAction p u] } := by
  cases u <;> rfl

@[simp] theorem primEffect_seqPc (p : Params) (u : Prim) (s : State) : (primEffect p u s).seqPc = s.seqPc := by
  cases u <;> rfl

@[simp] theorem primEffect_seqCmd (p : Params) (u : Prim) (s : State) : (primEffect p u s).seqCmd = s.seqCmd := by
  cases u <;> rfl

@[simp] theorem primEffect_isrActive (p : Params) (u : Prim) (s : State) :
    (primEffect p u s).isrActive = s.isrActive := by
  cases u <;> rfl

@[simp] theorem primEffect_env (p : Params) (u : Prim) (s : State) : (primEffect p u s).env = s.env := by
  cases u <;> rfl

/-- An element does not see where the sequencer stands. -/
theorem primEffect_setSeqPc (p : Params) (u : Prim) (n : SeqIndex) (s : State) :
    primEffect p u (setSeqPc n s) = setSeqPc n (primEffect p u s) := by
  cases u <;> rfl

@[simp] theorem runPrims_nil (p : Params) (s : State) : runPrims p [] s = s := rfl

@[simp] theorem runPrims_cons (p : Params) (u : Prim) (us : List Prim) (s : State) :
    runPrims p (u :: us) s = runPrims p us (primEffect p u s) := rfl

theorem runPrims_append (p : Params) (us vs : List Prim) (s : State) :
    runPrims p (us ++ vs) s = runPrims p vs (runPrims p us s) := by
  simp [runPrims, List.foldl_append]

/-- Everything a list of elements can change is CMD_ANGLE, OCR, LED and TRACE, and it appends its actions in order. -/
theorem runPrims_spec (p : Params) (us : List Prim) (s : State) :
    runPrims p us s =
      { s with
        cmdAngle := (runPrims p us s).cmdAngle
        ocr := (runPrims p us s).ocr
        led := (runPrims p us s).led
        trace := s.trace ++ us.map (primAction p) } := by
  induction us generalizing s with
  | nil => simp
  | cons u us ih =>
    rw [runPrims_cons, ih, primEffect_spec p u s]
    simp

theorem runPrims_trace (p : Params) (us : List Prim) (s : State) :
    (runPrims p us s).trace = s.trace ++ us.map (primAction p) := by
  rw [runPrims_spec]

/-- What a list of elements leaves in OCR, LED and CMD_ANGLE depends on what stood in the three, and on nothing else. -/
theorem runPrims_congr (p : Params) (us : List Prim) {s t : State}
    (h : s.ocr = t.ocr ∧ s.led = t.led ∧ s.cmdAngle = t.cmdAngle) :
    (runPrims p us s).ocr = (runPrims p us t).ocr ∧ (runPrims p us s).led = (runPrims p us t).led ∧
      (runPrims p us s).cmdAngle = (runPrims p us t).cmdAngle := by
  induction us generalizing s t with
  | nil => exact h
  | cons u us ih =>
    simp only [runPrims_cons]
    apply ih
    cases u <;> simp [primEffect, moveTo_eq, ledSet_eq, waitTicks_eq, h.1, h.2.1, h.2.2]

theorem runPrims_setSeqPc (p : Params) (us : List Prim) (n : SeqIndex) (s : State) :
    runPrims p us (setSeqPc n s) = setSeqPc n (runPrims p us s) := by
  induction us generalizing s with
  | nil => rfl
  | cons u us ih => simp only [runPrims_cons, primEffect_setSeqPc, ih]

/-- What one cycle of a blink does (R103). -/
theorem runPrims_blinkCycle (p : Params) (on off : Count) (s : State) :
    runPrims p (blinkCycle on off) s =
      { s with led := false, trace := s.trace ++ [.led true, .wait on, .led false, .wait off] } := by
  simp [blinkCycle, primEffect, ledSet_eq, waitTicks_eq]

theorem cycles_succ (n : Nat) (on off : Count) :
    cycles (n + 1) on off = [.led true, .wait on, .led false, .wait off] ++ cycles n on off := by
  simp [cycles, List.replicate_succ]

/-- What `n` cycles of a blink do: the indicator is off after the last, and keeps its value when there is none. -/
theorem runPrims_cycles (p : Params) (n : Nat) (on off : Count) (s : State) :
    runPrims p (List.replicate n (blinkCycle on off)).flatten s =
      { s with led := if n = 0 then s.led else false, trace := s.trace ++ cycles n on off } := by
  induction n generalizing s with
  | zero => simp [cycles]
  | succ n ih =>
    rw [List.replicate_succ, List.flatten_cons, runPrims_append, runPrims_blinkCycle, ih, cycles_succ]
    simp

theorem blinkSeq_length (c on off : Count) : (blinkSeq c on off).length = 4 * c.toNat := by
  simp [blinkSeq, blinkCycle, List.length_flatten]
  omega

@[simp] theorem seq_none : seq none = [] := rfl

theorem seq_opening_length : (seq (some .opening)).length = 10 := by decide

theorem seq_closing_length : (seq (some .closing)).length = 82 := by
  simp [seq, blinkSeq_length, closeBlinks]

theorem seq_twitching_length : (seq (some .twitching)).length = 23 := by decide

theorem seq_unrecognized_length : (seq (some .unrecognized)).length = 401 := by
  simp [seq, blinkSeq_length, unrecBlinks]

/-- SEQ_PC's 9 bits hold every index and every length (R18). -/
theorem seq_length_le (c : Option Behaviour) : (seq c).length ≤ 401 := by
  match c with
  | none => simp
  | some .opening => rw [seq_opening_length]; omega
  | some .closing => rw [seq_closing_length]; omega
  | some .twitching => rw [seq_twitching_length]; omega
  | some .unrecognized => rw [seq_unrecognized_length]

end Sys2Proof.Machine
end

