-- ==== Sys2Proof/Laws/Exec.lean ====
section
/-! SUPPORT. What `exec` answers, the interrupt's entry and exit, and the handler as a whole. -/

namespace Sys2Proof.Machine

/-- Every instruction answers a next state. -/
theorem exec_next (i : Instr) (s : State) : ∃ t, exec i s = .next t := by
  cases i <;> exact ⟨_, rfl⟩

theorem exec_prim (u : Prim) (s : State) : exec u.instr s = .next (primEffect Config.params u s) := by
  cases u <;> rfl

theorem exec_command (c : Behaviour) (code : Byte) (s : State) :
    exec (c.instr code) s = .next (dispatch Config.params c s) := by
  cases c <;> rfl

/-- The instruction that an event decodes to is the handling of that event. -/
theorem exec_decodeEvent (e : BusEvent) (s : State) :
    exec (decodeEvent Config.params e.status e.data) s = .next (handleEvent Config.params e s) := by
  obtain ⟨status, data⟩ := e
  by_cases h1 : status = Config.params.scSlaAck
  · subst h1
    simp only [decodeEvent, classifyEvt_sla]
    rfl
  · by_cases h2 : status = Config.params.scDataAck
    · subst h2
      simp only [decodeEvent, classifyEvt_data Config.params_legal]
      rfl
    · simp only [decodeEvent, classifyEvt_other h1 h2]
      rfl

/-- `ISR_ENTER` on the dispatching path (R133). -/
theorem isrEnter_dispatch {p : Params} {s : State} (hc : classifyEvt p s.evtStatus = .dataAck)
    (hb : s.brxState = .addressMatched) :
    isrEnter p s =
      { s with
        isrActive := true
        eventCount := s.eventCount + 1
        brxState := .dataReceived
        rxData := s.evtData
        seqCmd := some (decodeCmd s.evtData)
        seqPc := 0 } := by
  simp only [isrEnter, countEvent_evtStatus, countEvent_brxState, setIsrActive_evtStatus, setIsrActive_brxState,
    hc, hb]
  rfl

/-- `ISR_ENTER` for a matched address. -/
theorem isrEnter_address {p : Params} {s : State} (hc : classifyEvt p s.evtStatus = .slaAck) :
    isrEnter p s =
      { s with
        isrActive := true
        eventCount := s.eventCount + 1
        brxState := .addressMatched
        seqCmd := none
        seqPc := 0 } := by
  simp only [isrEnter, countEvent_evtStatus, countEvent_brxState, setIsrActive_evtStatus, setIsrActive_brxState, hc]
  rfl

/-- `ISR_ENTER` for everything else: back to Idle (R138, R139). -/
theorem isrEnter_idle {p : Params} {s : State} (h1 : classifyEvt p s.evtStatus ≠ .slaAck)
    (h2 : classifyEvt p s.evtStatus = .dataAck → s.brxState ≠ .addressMatched) :
    isrEnter p s =
      { s with
        isrActive := true
        eventCount := s.eventCount + 1
        brxState := .idle
        seqCmd := none
        seqPc := 0 } := by
  simp only [isrEnter, countEvent_evtStatus, countEvent_brxState, setIsrActive_evtStatus, setIsrActive_brxState]
  cases hc : classifyEvt p s.evtStatus <;> cases hb : s.brxState <;>
    first
      | rfl
      | exact absurd hc h1
      | exact absurd hb (h2 hc)

/-- `ISR_ENTER` takes one of the three ways of R132. -/
theorem isrEnter_cases (p : Params) (s : State) :
    (classifyEvt p s.evtStatus = .slaAck) ∨
      (classifyEvt p s.evtStatus = .dataAck ∧ s.brxState = .addressMatched) ∨
      (classifyEvt p s.evtStatus ≠ .slaAck ∧ (classifyEvt p s.evtStatus = .dataAck → s.brxState ≠ .addressMatched)) := by
  cases classifyEvt p s.evtStatus <;> cases s.brxState <;> simp

theorem isrExit_eq (s : State) :
    isrExit s =
      { s with
        armed := true
        ackEn := true
        evtValid := false
        trace := s.trace ++ [.rearm]
        rearmCount := s.rearmCount + 1
        seqCmd := none
        seqPc := 0
        isrActive := false } := rfl

theorem evtDeliver_eq (e : BusEvent) (s : State) :
    evtDeliver e s =
      { s with evtStatus := e.status, evtData := e.data, evtValid := true, armed := false } := rfl

/-- Everything the elements of the loaded sequence can change. -/
theorem runSequence_spec (p : Params) (s : State) :
    runSequence p s =
      { s with
        cmdAngle := (runPrims p (seq s.seqCmd) s).cmdAngle
        ocr := (runPrims p (seq s.seqCmd) s).ocr
        led := (runPrims p (seq s.seqCmd) s).led
        trace := s.trace ++ (seq s.seqCmd).map (primAction p)
        seqPc := BitVec.ofNat 9 (seqLen s) } := by
  rw [runSequence, runPrims_spec]
  rfl

/-- A handler that dispatches nothing: the event is latched, BRX_STATE moves, the responder is re-armed. -/
theorem runSequence_none {p : Params} {s : State} (h : s.seqCmd = none) : runSequence p s = { s with seqPc := 0 } := by
  simp [runSequence, h, seqLen, setSeqPc]

theorem canHandle_iff (s : State) : canHandle s = true ↔ s.armed = true ∧ s.isrActive = false := by
  simp [canHandle]

end Sys2Proof.Machine
end

