-- ==== Sys2Proof/Laws/PerInstr.lean ====
section
/-! SUPPORT. Statements made of every instruction, one lemma per constructor. -/

namespace Sys2Proof.Laws.EncodedFormat

/-- An instruction's word is of the format the opcode table gives it (`30_encoding.md` R60), under every
configuration. -/
def Statement (i : Instr) : Prop := ∀ p : Params, (encodeWith p i).format = i.format

theorem cmdOpen : Statement .cmdOpen := fun _ => rfl
theorem cmdClose : Statement .cmdClose := fun _ => rfl
theorem cmdTwitch : Statement .cmdTwitch := fun _ => rfl
theorem cmdUnrecognized (code : Byte) : Statement (.cmdUnrecognized code) := fun _ => rfl
theorem evtSlaAck (data : Byte) : Statement (.evtSlaAck data) := fun _ => rfl
theorem evtDataAck (data : Byte) : Statement (.evtDataAck data) := fun _ => rfl
theorem evtOther (status data : Byte) : Statement (.evtOther status data) := fun _ => rfl
theorem pulseFor (a : Angle) : Statement (.pulseFor a) := fun _ => rfl
theorem moveTo (a : Angle) : Statement (.moveTo a) := fun _ => rfl
theorem ledSet (b : Bool) : Statement (.ledSet b) := fun _ => rfl
theorem ledToggle : Statement .ledToggle := fun _ => rfl
theorem blink (c on off : Count) : Statement (.blink c on off) := fun _ => rfl
theorem wait (n : Count) : Statement (.wait n) := fun _ => rfl
theorem rearm : Statement .rearm := fun _ => rfl

end Sys2Proof.Laws.EncodedFormat
end

