-- ==== Sys2Proof/Laws/Step.lean ====
section
/-! SUPPORT. What a step can do, said once: whose step it is and what that agent's step leaves. -/

namespace Sys2Proof.Machine

/-- Every way an agent's step can go. -/
inductive Moves : Choice → State → State → Prop where
  /-- The step named is not enabled: none is taken. -/
  | none {c : Choice} {s : State} : Moves c s s
  | deliver {s : State} {e : BusEvent} (h : s.armed = true) : Moves (.bus e) s (evtDeliver e s)
  | enter {s : State} (h : s.isrActive = false) (hv : s.evtValid = true) : Moves .isr s (isrEnter Config.params s)
  | element {s : State} {u : Prim} (h : s.isrActive = true) (hu : seqFetch s = some u) :
      Moves .isr s (advanceSeqPc (primEffect Config.params u s))
  | exit {s : State} (h : s.isrActive = true) (hl : s.seqPc.toNat = seqLen s) : Moves .isr s (isrExit s)
  | mainRead {s : State} (h : s.isrActive = false) (hp : s.tglPending = false) : Moves .main s (mainTglRead s)
  | mainWrite {s : State} (h : s.isrActive = false) (hp : s.tglPending = true) : Moves .main s (mainTglWrite s)
  | pwm {s : State} : Moves .pwm s (pwmPeriod s)
  | boot {s : State} (h : s.ackEn = false) : Moves .boot s (bootOp s)
  | rst {s : State} (d : ResetDraws) : Moves (.rst d) s (State.resetWith d s.env)

/-- An agent's step answers a next state, and it is one of `Moves`. -/
theorem agentStep_moves (c : Choice) (s : State) : ∃ t, agentStep c s = .next t ∧ Moves c s t := by
  cases c with
  | bus e =>
    by_cases h : s.armed = true
    · exact ⟨_, by simp [agentStep, busStep, h], .deliver h⟩
    · exact ⟨s, by simp [agentStep, busStep, h], .none⟩
  | isr =>
    by_cases h : s.isrActive = true
    · cases hu : seqFetch s with
      | some u => exact ⟨_, by simp [agentStep, isrStep, h, hu, exec_prim, andThen], .element h hu⟩
      | none =>
        by_cases hl : s.seqPc.toNat = seqLen s
        · exact ⟨isrExit s, by simp [agentStep, isrStep, h, hu, hl, exec, execRearm, andThen, isrExit], .exit h hl⟩
        · exact ⟨s, by simp [agentStep, isrStep, h, hu, hl], .none⟩
    · by_cases hv : s.evtValid = true
      · exact ⟨_, by simp [agentStep, isrStep, h, hv], .enter (by simpa using h) hv⟩
      · exact ⟨s, by simp [agentStep, isrStep, h, hv], .none⟩
  | main =>
    cases h : s.isrActive with
    | true => exact ⟨s, by simp [agentStep, mainStep, canMainRead, canMainWrite, h], .none⟩
    | false =>
      cases hp : s.tglPending with
      | false => exact ⟨_, by simp [agentStep, mainStep, canMainRead, h, hp], .mainRead h hp⟩
      | true => exact ⟨_, by simp [agentStep, mainStep, canMainRead, canMainWrite, h, hp], .mainWrite h hp⟩
  | pwm => exact ⟨_, rfl, .pwm⟩
  | boot =>
    by_cases h : s.ackEn = true
    · exact ⟨s, by simp [agentStep, bootStep, h], .none⟩
    · exact ⟨_, by simp [agentStep, bootStep, h], .boot (by simpa using h)⟩
  | rst d => exact ⟨_, rfl, .rst d⟩

theorem step_unplaced {s : State} (h : s.env.placed = none) :
    step s = agentStep (Config.schedule s.env.draws) (takeDraw s) := by
  simp [step, h]

theorem step_placed {s : State} {w : InputWord} (h : s.env.placed = some w) :
    step s = exec (decodeInput w) (setPlaced none s) := by
  simp [step, h]

/-- One step: it answers a next state, either that of the word placed, or that of a freely chosen agent's move. -/
theorem step_cases (s : State) : ∃ t, step s = .next t ∧
    ((∃ w, s.env.placed = some w ∧ exec (decodeInput w) (setPlaced none s) = .next t) ∨
      (s.env.placed = none ∧ Moves (Config.schedule s.env.draws) (takeDraw s) t)) := by
  cases hp : s.env.placed with
  | some w =>
    obtain ⟨t, ht⟩ := exec_next (decodeInput w) (setPlaced none s)
    exact ⟨t, (step_placed hp).trans ht, .inl ⟨w, rfl, ht⟩⟩
  | none =>
    obtain ⟨t, ht, hm⟩ := agentStep_moves (Config.schedule s.env.draws) (takeDraw s)
    exact ⟨t, (step_unplaced hp).trans ht, .inr ⟨rfl, hm⟩⟩

theorem runChoices_cons {c : Choice} {s t : State} (cs : List Choice) (h : agentStep c s = .next t) :
    runChoices (c :: cs) s = runChoices cs t := by
  simp [runChoices, h]

/-- Choices taken in two stretches. -/
theorem runChoices_append (cs ds : List Choice) {s t : State} (h : runChoices cs s = .next t) :
    runChoices (cs ++ ds) s = runChoices ds t := by
  induction cs generalizing s with
  | nil =>
    obtain rfl := Host.Outcome.next.inj h
    rfl
  | cons c cs ih =>
    obtain ⟨u, hu, -⟩ := agentStep_moves c s
    rw [runChoices_cons cs hu] at h
    rw [List.cons_append, runChoices_cons (cs ++ ds) hu, ih h]

/-- One step of a host's run, of any machine. -/
theorem coreRun_succ (M : Host.Core) (k : Nat) {s t : M.State} (h : M.step s = .next t) :
    M.run (k + 1) s = M.run k t := by
  simp [Host.Core.run, h]

/-- A choice whose step is not enabled takes none (log 4). -/
theorem agentStep_disabled {c : Choice} {s : State} (h : enabled c.agent s = false) : agentStep c s = .next s := by
  cases c with
  | bus _ => simp_all [enabled, Choice.agent, agentStep, busStep]
  | isr =>
    cases ha : s.isrActive with
    | false => simp_all [enabled, Choice.agent, agentStep, isrStep]
    | true =>
      have hlen : seqLen s < s.seqPc.toNat := by simpa [enabled, Choice.agent, ha] using h
      have hnone : seqFetch s = none := List.getElem?_eq_none (Nat.le_of_lt hlen)
      simp [agentStep, isrStep, ha, hnone, Nat.ne_of_gt hlen]
  | main => simp_all [enabled, Choice.agent, agentStep, mainStep, canMainRead, canMainWrite]
  | pwm => simp [enabled, Choice.agent] at h
  | boot => simp_all [enabled, Choice.agent, agentStep, bootStep]
  | rst _ => simp [enabled, Choice.agent] at h

/-! ### No agent sees what stands outside the block. -/

theorem primEffect_setEnv (p : Params) (u : Prim) (e : Env) (s : State) :
    primEffect p u (setEnv e s) = setEnv e (primEffect p u s) := by
  cases u <;> rfl

theorem runPrims_setEnv (p : Params) (us : List Prim) (e : Env) (s : State) :
    runPrims p us (setEnv e s) = setEnv e (runPrims p us s) := by
  induction us generalizing s with
  | nil => rfl
  | cons u us ih => simp only [runPrims_cons, primEffect_setEnv, ih]

theorem isrEnter_setEnv (p : Params) (e : Env) (s : State) : isrEnter p (setEnv e s) = setEnv e (isrEnter p s) := by
  obtain h | ⟨h, hb⟩ | ⟨h, hb⟩ := isrEnter_cases p s
  · rw [isrEnter_address h, isrEnter_address (s := setEnv e s) h]; rfl
  · rw [isrEnter_dispatch h hb, isrEnter_dispatch (s := setEnv e s) h hb]; rfl
  · rw [isrEnter_idle h hb, isrEnter_idle (s := setEnv e s) h hb]; rfl

theorem runSequence_setEnv (p : Params) (e : Env) (s : State) :
    runSequence p (setEnv e s) = setEnv e (runSequence p s) := by
  simp only [runSequence, setEnv_seqCmd, runPrims_setEnv]
  rfl

theorem handleEvent_setEnv (p : Params) (ev : BusEvent) (e : Env) (s : State) :
    handleEvent p ev (setEnv e s) = setEnv e (handleEvent p ev s) := by
  have hd : evtDeliver ev (setEnv e s) = setEnv e (evtDeliver ev s) := rfl
  have hc : canHandle (setEnv e s) = canHandle s := rfl
  simp only [handleEvent, hc, hd, isrEnter_setEnv, runSequence_setEnv]
  split <;> rfl

/-- No agent's step reads or writes what stands outside the block. -/
theorem agentStep_setEnv (c : Choice) (s : State) (e : Env) :
    agentStep c (setEnv e s) = andThen (agentStep c s) (setEnv e) := by
  have hfetch : seqFetch (setEnv e s) = seqFetch s := rfl
  have hlen : seqLen (setEnv e s) = seqLen s := rfl
  cases c with
  | bus ev => cases h : s.armed <;> simp [agentStep, busStep, h, andThen]; rfl
  | rst d => rfl
  | pwm => rfl
  | boot => cases h : s.ackEn <;> simp [agentStep, bootStep, h, andThen]; rfl
  | main =>
    cases h : s.isrActive <;> cases hp : s.tglPending <;>
      simp [agentStep, mainStep, canMainRead, canMainWrite, h, hp, andThen] <;> rfl
  | isr =>
    cases h : s.isrActive with
    | false => cases hv : s.evtValid <;> simp [agentStep, isrStep, h, hv, andThen, isrEnter_setEnv]
    | true =>
      cases hu : seqFetch s with
      | some u =>
        simp only [agentStep, isrStep, setEnv_isrActive, h, hfetch, hu, exec_prim, andThen, primEffect_setEnv]
        rfl
      | none =>
        simp only [agentStep, isrStep, setEnv_isrActive, h, hfetch, hu, setEnv_seqPc, hlen, if_true]
        split <;> rfl

theorem agentStep_env {c : Choice} {s t : State} (h : agentStep c s = .next t) : t.env = s.env := by
  have hs : agentStep c s = andThen (agentStep c s) (setEnv s.env) := agentStep_setEnv c s s.env
  rw [h] at hs
  have ht : t = setEnv s.env t := Host.Outcome.next.inj hs
  rw [ht]
  rfl

end Sys2Proof.Machine
end

