-- ==== Sys2Proof/Tests/Slice0.lean ====
section
/-! SUPPORT. The model's own tests. Expected values are the vectors of `95_test_vectors.md` (named V-…, in its
configurations CFG_A and CFG_B), or words written out from `30_encoding.md`. Then one witness for every hypothesis of
`Certificates/Slice0/Obligations.lean`. -/

namespace Sys2Proof.Tests

open Sys2Proof.Machine

/-! ## Small states -/

/-- Draws that are not all zero, so that "unchanged" is told from "cleared". -/
def drawn : ResetDraws :=
  { evtStatus := 0x11, evtData := 0x22, rxData := 0x33, cmdAngle := 44, ocr := 555, pwmActive := 666, led := true,
    tglTmp := false }

/-- Launched. -/
def launched : State := State.launchWith drawn Env.empty

/-- Launched and idle, the receiver in state `b`. -/
def receiver (b : BrxState) : State := setBrxState b launched

/-- An event pending, the receiver in state `b`. -/
def pending (b : BrxState) (e : BusEvent) : State := evtDeliver e (setBrxState b launched)

/-- A handler of CFG_A's DATA_ACK running, its sequence at `pc`. -/
def running (cmd : Option Behaviour) (pc : SeqIndex) : State :=
  { pending .dataReceived ⟨0x80, 3⟩ with
    isrActive := true
    eventCount := 1
    rxData := 3
    seqCmd := cmd
    seqPc := pc }

/-! ## Well-formedness: an ill-formed term for each check, refused -/

theorem test_wf_unrecognized_refuses_open : (Instr.cmdUnrecognized 1).wfWith .cfgA = false := by decide
theorem test_wf_unrecognized_refuses_close : (Instr.cmdUnrecognized 2).wfWith .cfgA = false := by decide
theorem test_wf_unrecognized_refuses_twitch : (Instr.cmdUnrecognized 3).wfWith .cfgA = false := by decide
theorem test_wf_unrecognized_accepts_zero : (Instr.cmdUnrecognized 0).wfWith .cfgA = true := by decide
theorem test_wf_other_refuses_sla : (Instr.evtOther 0x60 7).wfWith .cfgA = false := by decide
theorem test_wf_other_refuses_data : (Instr.evtOther 0x80 7).wfWith .cfgA = false := by decide
theorem test_wf_other_accepts_release : (Instr.evtOther 0xA0 7).wfWith .cfgA = true := by decide

/-! ## Decoding: one word for each constructor, written from the encoding tables; then the words refused -/

theorem test_decode_open : decodeWith .cfgA (.command 0b00000001) = .ok .cmdOpen := rfl
theorem test_decode_close : decodeWith .cfgA (.command 0b00000010) = .ok .cmdClose := rfl
theorem test_decode_twitch : decodeWith .cfgA (.command 0b00000011) = .ok .cmdTwitch := rfl
theorem test_decode_unrecognized : decodeWith .cfgA (.command 0b00000100) = .ok (.cmdUnrecognized 4) := rfl
theorem test_decode_slaAck : decodeWith .cfgA (.event 0b01100000 0b11111111) = .ok (.evtSlaAck 0xFF) := rfl
theorem test_decode_dataAck : decodeWith .cfgA (.event 0b10000000 0b00000010) = .ok (.evtDataAck 2) := rfl
theorem test_decode_other : decodeWith .cfgA (.event 0b10100000 0b00000001) = .ok (.evtOther 0xA0 1) := rfl
theorem test_decode_pulseFor : decodeWith .cfgA (.micro 0b000 [255]) = .ok (.pulseFor 255) := rfl
theorem test_decode_moveTo : decodeWith .cfgA (.micro 0b001 [180]) = .ok (.moveTo 180) := rfl
theorem test_decode_ledSet : decodeWith .cfgA (.micro 0b010 [1]) = .ok (.ledSet true) := rfl
theorem test_decode_ledToggle : decodeWith .cfgA (.micro 0b011 []) = .ok .ledToggle := rfl
theorem test_decode_blink : decodeWith .cfgA (.micro 0b100 [1, 2, 3]) = .ok (.blink 1 2 3) := rfl
theorem test_decode_wait : decodeWith .cfgA (.micro 0b101 [0xFFFFFFFF]) = .ok (.wait 0xFFFFFFFF) := rfl
theorem test_decode_rearm : decodeWith .cfgA (.micro 0b110 []) = .ok .rearm := rfl

theorem test_decode_tag_seven : decodeWith .cfgA (.micro 0b111 []) = .error .unknownTag := rfl
theorem test_decode_wide_angle : decodeWith .cfgA (.micro 0b001 [256]) = .error .operandRange := rfl
theorem test_decode_wide_bit : decodeWith .cfgA (.micro 0b010 [2]) = .error .operandRange := rfl
theorem test_decode_extra_operand : decodeWith .cfgA (.micro 0b110 [0]) = .error .operandCount := rfl

/-- V-E1 to V-E8. -/
theorem test_command_bytes :
    [0x00, 0x01, 0x02, 0x03, 0x04, 0x7F, 0x81, 0xFF].map decodeCmd =
      [.unrecognized, .opening, .closing, .twitching, .unrecognized, .unrecognized, .unrecognized,
        .unrecognized] := by decide

/-- V-E9 to V-E16. -/
theorem test_status_codes :
    [0x00, 0x5F, 0x60, 0x61, 0x80, 0x88, 0xA0, 0xFF].map (classifyEvt .cfgA) =
      [.other, .other, .slaAck, .other, .dataAck, .other, .other, .other] := by decide

/-- The opcode table's OPEN and an UNRECOGNIZED, in its numbering. -/
theorem test_table_words :
    decodeTableWord 8 0x01 = some .cmdOpen ∧ decodeTableWord 8 0x80 = some (.cmdUnrecognized 0x80) ∧
      decodeTableWord 24 1 = none := by decide

/-- A command placed after reset is what the next step runs. -/
theorem test_fetch_command : step (State.reset.withFetchWord 8 1) = exec .cmdOpen State.reset := by rfl

/-- An event placed after reset is what the next step runs: status low, data above it. -/
theorem test_fetch_event :
    step (State.reset.withFetchWord 16 0x0380) = exec (decodeEvent Config.params 0x80 0x03)
      { State.reset with armed := true } := by rfl

/-! ## Operands, table, configuration -/

/-- V-P1, V-P6, V-P7, V-P9 to V-P11, V-P15 in CFG_A. -/
theorem test_pulse_for_cfgA :
    [0, 154, 155, 178, 179, 180, 255].map (pulseFor .cfgA) =
      [1000, 1924, 1930, 2068, 2074, 2074, 2074] := by decide

/-- V-P2, V-P5, V-P8 to V-P11, V-P14 in CFG_B. -/
theorem test_pulse_for_cfgB :
    [1, 90, 156, 178, 179, 180, 254].map (pulseFor .cfgB) = [17, 106, 172, 194, 195, 195, 195] := by decide

/-- V-N1 to V-N7, the step. -/
theorem test_nominal_steps :
    [(1000, 2000), (1000, 2500), (544, 2400), (16, 195), (0, 268), (0, 269), (0, 89)].map
      (fun n : Nat × Nat => stepOfNominal n.1 n.2) = [6, 8, 10, 1, 1, 2, 0] := by decide

/-- V-N1 and V-N7: the last entry, and the pair that is refused. -/
theorem test_nominal_configurations :
    (nominalParams .cfgA 1000 2000).pulseMax = 2074 ∧
      checkParams (nominalParams .cfgA 0 89) = .error .illegalConfiguration := ⟨rfl, rfl⟩

/-- R67's worked numbers, and a duration off the grid. -/
theorem test_ticks :
    ticksOfMs 16 = .ok 1 ∧ ticksOfMs 64 = .ok 4 ∧ ticksOfMs 800 = .ok 50 ∧
      ticksOfMs 20 = .error .offTickGrid := ⟨rfl, rfl, rfl, rfl⟩

/-- R67, R103: the source's `blink(2, 16ms, 16ms)`. -/
theorem test_blink_of_milliseconds : blinkOfMs 2 16 16 = .ok (.blink 2 1 1) := rfl

/-! ## Micro-operations and agents -/

/-- `PULSE_FOR` returns the entry and changes nothing (V-P12). -/
theorem test_pulseFor : pulseForOp .cfgA 181 (receiver .idle) = (2074, receiver .idle) := by rfl

/-- V-A2. -/
theorem test_moveTo_155 :
    moveTo .cfgA 155 launched =
      { launched with ocr := 1930, cmdAngle := 155, trace := [.ocrWrite 1930] } := by rfl

/-- V-A5: the clamp, in OCR and in CMD_ANGLE. -/
theorem test_moveTo_255 :
    moveTo .cfgA 255 launched =
      { launched with ocr := 2074, cmdAngle := 179, trace := [.ocrWrite 2074] } := by rfl

/-- V-A7, V-A8. -/
theorem test_pwm_period :
    agentStep .pwm launched = .next { launched with pwmActive := 555, trace := [.pulse 555] } := by rfl

/-- R93, R6: the line is high for OCR of PWM_TOP. -/
theorem test_duty : actuationDuty .cfgA (pwmPeriod launched) = some (555, 20000) := by rfl

/-- `95_test_vectors.md` section 1: CFG_A counts microseconds over 20 ms, so 1000 counts are 1 ms. -/
theorem test_high_time : actuationHighMs .cfgA { launched with pwmActive := 1000 } = some (20000, 20000) := by rfl

/-- R121: OPEN's 54 ticks are 864 ms, UNRECOGNIZED's 250 are 4000 ms. -/
theorem test_least_ms : leastMs 54 = 864 ∧ leastMs 250 = 4000 := by decide

/-- V-I3. -/
theorem test_ledSet_off :
    exec (.ledSet false) launched = .next { launched with led := false, trace := [.led false] } := by rfl

/-- V-I2: the value held already is traced again. -/
theorem test_ledSet_same :
    exec (.ledSet true) launched = .next { launched with trace := [.led true] } := by rfl

/-- V-I5. -/
theorem test_ledToggle : exec .ledToggle launched = .next { launched with led := false } := by rfl

/-- V-I7. -/
theorem test_main_read :
    agentStep .main launched = .next { launched with tglTmp := true, tglPending := true } := by rfl

/-- V-I9: stale, the toggle has no visible effect. -/
theorem test_main_write_stale :
    mainStep { launched with led := false, tglTmp := true, tglPending := true } =
      .next { launched with led := false, tglTmp := true, trace := [.mainLed false] } := by rfl

/-- V-I11. -/
theorem test_main_disabled : agentStep .main (running none 0) = .next (running none 0) := by rfl

/-- V-I12, V-I18. -/
theorem test_blink_expansion :
    blinkSeq 0 1 1 = [] ∧ blinkSeq 1 2 3 = [.ledSet true, .wait 2, .ledSet false, .wait 3] := by decide

/-- V-I13. -/
theorem test_blink :
    exec (.blink 1 1 1) launched =
      .next { launched with led := false, trace := [.led true, .wait 1, .led false, .wait 1] } := by rfl

/-- `WAIT 0` emits `Wait 0` (section 3.4 of the vectors). -/
theorem test_wait_zero : exec (.wait 0) launched = .next { launched with trace := [.wait 0] } := by rfl

/-- R145: the bits and the action, and not ISR_ACTIVE. -/
theorem test_rearm :
    exec .rearm (running none 0) =
      .next { running none 0 with armed := true, ackEn := true, evtValid := false, trace := [.rearm] } := by rfl

/-! ## Commands -/

/-- V-D1. -/
theorem test_open :
    dispatch .cfgA .opening launched =
      { launched with
        ocr := 1000
        cmdAngle := 0
        led := false
        trace := [.ocrWrite 1000, .led true, .wait 1, .led false, .wait 1, .led true, .wait 1, .led false, .wait 1,
          .wait 50] } := by rfl

/-- V-D2's columns. -/
theorem test_close :
    (dispatch .cfgA .closing launched).ocr = 2074 ∧ (dispatch .cfgB .closing launched).ocr = 195 ∧
      (dispatch .cfgA .closing launched).cmdAngle = 179 ∧
      ticksWaited (dispatch .cfgA .closing launched).trace = 90 := ⟨rfl, rfl, rfl, rfl⟩

/-- V-D3's writes, in CFG_A and CFG_B. -/
theorem test_twitch :
    ocrWrites launched (dispatch .cfgA .twitching launched) = [1930, 2074] ∧
      ocrWrites launched (dispatch .cfgB .twitching launched) = [171, 195] ∧
      ticksWaited (dispatch .cfgA .twitching launched).trace = 14 := ⟨rfl, rfl, rfl⟩

/-- V-D4's columns. -/
theorem test_unrecognized :
    (dispatch .cfgA .unrecognized launched).ocr = 555 ∧
      (dispatch .cfgA .unrecognized launched).led = false ∧
      ticksWaited (dispatch .cfgA .unrecognized launched).trace = 250 := by decide +kernel

/-- V-D6, V-D7. -/
theorem test_positions_open_close :
    [0, 1, 4, 5, 8, 9].map (fun i => (seq (some .opening))[i]?) =
        [some (.moveTo 0), some (.ledSet true), some (.wait 1), some (.ledSet true), some (.wait 1),
          some (.wait 50)] ∧
      [0, 1, 77, 80, 81, 82].map (fun i => (seq (some .closing))[i]?) =
        [some (.moveTo 180), some (.ledSet true), some (.ledSet true), some (.wait 1), some (.wait 50), none] :=
  ⟨rfl, rfl⟩

/-- V-D8, V-D9. -/
theorem test_positions_twitch_unrecognized :
    [0, 1, 2, 3, 19, 22].map (fun i => (seq (some .twitching))[i]?) =
        [some (.moveTo 155), some (.wait 4), some (.moveTo 179), some (.ledSet true), some (.ledSet true),
          some (.wait 1)] ∧
      [0, 3, 396, 399, 400, 401].map (fun i => (seq (some .unrecognized))[i]?) =
        [some (.ledSet true), some (.wait 1), some (.ledSet true), some (.wait 1), some (.wait 50), none] :=
  ⟨rfl, rfl⟩

/-! ## Bus events, each handler whole -/

/-- V-B11. -/
theorem test_slaAck :
    handleEvent .cfgA ⟨0x60, 9⟩ (receiver .dataReceived) =
      { receiver .addressMatched with
        evtStatus := 0x60
        evtData := 9
        eventCount := 1
        rearmCount := 1
        trace := [.rearm] } := by rfl

/-- V-B7: every field, in CFG_A. -/
theorem test_dataAck_dispatch :
    handleEvent .cfgA ⟨0x80, 0x03⟩ (receiver .addressMatched) =
      { receiver .dataReceived with
        rxData := 3
        ocr := 2074
        cmdAngle := 179
        led := false
        evtStatus := 0x80
        evtData := 3
        eventCount := 1
        rearmCount := 1
        trace := [.ocrWrite 1930, .wait 4, .ocrWrite 2074] ++ cycles 5 1 1 ++ [.rearm] } := by rfl

/-- V-B12: the second byte of a write is ignored. -/
theorem test_dataAck_ignored :
    handleEvent .cfgA ⟨0x80, 0x02⟩ (receiver .dataReceived) =
      { receiver .idle with
        evtStatus := 0x80
        evtData := 2
        eventCount := 1
        rearmCount := 1
        trace := [.rearm] } := by rfl

/-- V-B10. -/
theorem test_other :
    handleEvent .cfgA ⟨0xA0, 1⟩ (receiver .addressMatched) =
      { receiver .idle with
        evtStatus := 0xA0
        evtData := 1
        eventCount := 1
        rearmCount := 1
        trace := [.rearm] } := by rfl

/-- V-B15. -/
theorem test_unarmed : handleEvent .cfgA ⟨0xA0, 1⟩ (running none 0) = running none 0 := by rfl

/-- V-B7's first line. -/
theorem test_deliver :
    agentStep (.bus ⟨0x80, 0x03⟩) (receiver .addressMatched) =
      .next { receiver .addressMatched with evtStatus := 0x80, evtData := 3, evtValid := true, armed := false } := by rfl

/-- V-B7's fourth line: `WAIT 4` by an `ISR_STEP`. -/
theorem test_isr_step :
    agentStep .isr (running (some .twitching) 1) =
      .next { running (some .twitching) 1 with seqPc := 2, trace := [.wait 4] } := by rfl

/-- V-B7's last line. -/
theorem test_isr_exit :
    agentStep .isr (running (some .twitching) 23) =
      .next { running none 0 with
        armed := true
        evtValid := false
        isrActive := false
        rearmCount := 1
        trace := [.rearm] } := by rfl

/-- V-R1, V-R4: the sequence is abandoned, the rest drawn. -/
theorem test_reset_in_sequence :
    agentStep (.rst drawn) (running (some .twitching) 2) = .next (State.resetWith drawn Env.empty) := by rfl

/-- V-R2. -/
theorem test_boot :
    agentStep .boot (State.resetWith drawn Env.empty) =
      .next { State.resetWith drawn Env.empty with armed := true, ackEn := true } := by rfl

/-- V-R3. -/
theorem test_inert_before_boot :
    agentStep (.bus ⟨0x60, 0⟩) (State.resetWith drawn Env.empty) = .next (State.resetWith drawn Env.empty) := by rfl

/-- R33's pulses, over V-B7's handler. -/
theorem test_ports :
    rearmPulses (receiver .addressMatched) (handleEvent .cfgA ⟨0x80, 3⟩ (receiver .addressMatched)) = 1 ∧
      ocrWrites (receiver .addressMatched) (handleEvent .cfgA ⟨0x80, 3⟩ (receiver .addressMatched)) = [1930, 2074] ∧
      delayRequests (receiver .addressMatched) (handleEvent .cfgA ⟨0x80, 1⟩ (receiver .addressMatched)) =
        [1, 1, 1, 1, 50] := ⟨rfl, rfl, rfl⟩

/-! ## Witnesses: the hypotheses of each obligation, met together, at the values where its clauses meet -/

/-- The running states meet R32. -/
theorem running_inv (cmd : Option Behaviour) (pc : SeqIndex) (h : pc.toNat ≤ (seq cmd).length) :
    HandshakeInv (running cmd pc) where
  inert := by intro h'; cases h'
  armedIff := fun _ => ⟨fun h' => Bool.noConfusion h', fun h' => Bool.noConfusion h'⟩
  activePending := by intro _; rfl
  quiet := by intro h'; cases h'
  inSequence := h
  counts := rfl
  angleInRange := by intro h'; cases h'

/-- The reset states meet R32's form of log 28. -/
theorem reset_inv : HandshakeInv (State.resetWith drawn Env.empty) where
  inert := by intro _; exact ⟨rfl, rfl, rfl⟩
  armedIff := by intro h'; cases h'
  activePending := by intro h'; cases h'
  quiet := by intro _; exact ⟨rfl, rfl⟩
  inSequence := Nat.zero_le _
  counts := rfl
  angleInRange := by intro h'; cases h'

/-- The launched states meet R32. -/
theorem launched_inv : HandshakeInv launched where
  inert := by intro h'; cases h'
  armedIff := fun _ => ⟨fun _ => rfl, fun _ => rfl⟩
  activePending := by intro h'; cases h'
  quiet := by intro _; exact ⟨rfl, rfl⟩
  inSequence := Nat.zero_le _
  counts := rfl
  angleInRange := by intro h'; cases h'

/-- Some status code is neither of the two named ones. -/
theorem exists_other_code (a b : Byte) : ∃ c : Byte, c ≠ a ∧ c ≠ b := by
  by_contra h
  push Not at h
  have h0 := h 0
  have h1 := h 1
  have h2 := h 2
  by_cases a0 : (0 : Byte) = a
  · subst a0
    have e1 := h1 (by decide)
    have e2 := h2 (by decide)
    exact absurd (e1.trans e2.symm) (by decide)
  · have e0 := h0 a0
    by_cases a1 : (1 : Byte) = a
    · subst a1
      exact absurd (e0.trans (h2 (by decide)).symm) (by decide)
    · exact absurd (e0.trans (h1 a1).symm) (by decide)

theorem witness_CommandByteDecoding :
    ((0 : Byte) ≠ 1 ∧ (0 : Byte) ≠ 2 ∧ (0 : Byte) ≠ 3) ∧ ((4 : Byte) ≠ 1 ∧ (4 : Byte) ≠ 2 ∧ (4 : Byte) ≠ 3) ∧
      ((0xFF : Byte) ≠ 1 ∧ (0xFF : Byte) ≠ 2 ∧ (0xFF : Byte) ≠ 3) := by decide

theorem witness_StatusClassification :
    Params.cfgA.legal = true ∧ (0x60 : Byte) = Params.cfgA.scSlaAck ∧ (0x80 : Byte) = Params.cfgA.scDataAck ∧
      (0x61 : Byte) ≠ Params.cfgA.scSlaAck ∧ (0x61 : Byte) ≠ Params.cfgA.scDataAck := by decide

theorem witness_DecodeEncodeRoundTrip :
    Params.cfgA.legal = true ∧ (Instr.cmdUnrecognized 0xFF).wfWith .cfgA = true ∧
      (Instr.evtOther 0x81 0xFF).wfWith .cfgA = true ∧ (Instr.moveTo 0xFF).wfWith .cfgA = true ∧
      (Instr.blink 0 0xFFFFFFFF 1).wfWith .cfgA = true := by decide

theorem witness_AcceptedWordsAreEncodings :
    decodeWith .cfgB (.micro 1 [255]) = .ok (.moveTo 255) ∧ decodeWith .cfgB (.micro 2 [1]) = .ok (.ledSet true) ∧
      decodeWith .cfgB (.event 0x60 1) = .ok (.evtSlaAck 1) ∧ decodeWith .cfgB (.command 0) = .ok (.cmdUnrecognized 0) :=
  ⟨rfl, rfl, rfl, rfl⟩

/-- One operand too few and one too many, for each number of operands that a tag has. -/
theorem witness_MicroWordsRefusedByName :
    256 ≤ (256 : Count).toNat ∧ 2 ≤ (2 : Count).toNat ∧
      ∀ w ∈ ([(0, []), (1, [9, 9]), (5, []), (6, [9]), (4, [9, 9]), (4, [9, 9, 9, 9])] : List (BitVec 3 × List Count)),
        w.1 ≠ 7 ∧ w.2.length ≠ (if w.1 = 3 ∨ w.1 = 6 then 0 else if w.1 = 4 then 3 else 1) := by decide

/-- A configuration at the edge of R6, and one past each of its four constraints. -/
theorem witness_ConfigurationConstraints :
    ({ Params.cfgA with pulseMin := 65536 - 179 - 1, pulseStep := 1, pwmTop := some 65535 } : Params).legal = true ∧
      ({ Params.cfgA with pulseMin := 65536 - 179, pulseStep := 1, pwmTop := none } : Params).legal = false ∧
      ({ Params.cfgA with pulseStep := 0 } : Params).legal = false ∧
      ({ Params.cfgA with pwmTop := some 2073 } : Params).legal = false ∧
      ({ Params.cfgA with scDataAck := 0x60 } : Params).legal = false := by decide

theorem witness_EveryLegalConfigurationCovered : Params.cfgA.legal = true ∧ Params.cfgB.legal = true := by decide

theorem witness_ClampSaturates :
    (179 : Angle).toNat ≤ 179 ∧ 180 ≤ (180 : Angle).toNat ∧ 180 ≤ (255 : Angle).toNat := by decide

theorem witness_PulseTableStrictlyLinear :
    Params.cfgB.legal = true ∧ ((0 : Angle).toNat < (1 : Angle).toNat ∧ (1 : Angle).toNat ≤ 179) ∧
      ((178 : Angle).toNat < (179 : Angle).toNat ∧ (179 : Angle).toNat ≤ 179) ∧
      (179 : Angle).toNat ≤ (180 : Angle).toNat ∧ 180 ≤ (180 : Angle).toNat := by decide

theorem witness_TableEntriesNeverWrap : Params.cfgA.legal = true ∧ (179 : Fin 180).val = 179 := by decide

theorem witness_NominalStepIsNearest : 0 ≤ 268 ∧ 0 ≤ 269 ∧ 1000 ≤ 1000 := by decide

theorem witness_TicksOfMilliseconds :
    (0 : Count).toNat % 16 = 0 ∧ (0xFFFFFFF0 : Count).toNat % 16 = 0 ∧ (15 : Count).toNat % 16 ≠ 0 ∧
      (0xFFFFFFFF : Count).toNat % 16 ≠ 0 := by decide

theorem witness_DispatchKeepsNothing : ∃ c : Behaviour, c = .unrecognized := ⟨_, rfl⟩

theorem witness_EvtSlaAckEffect :
    (receiver .dataReceived).armed = true ∧ (receiver .dataReceived).isrActive = false := by decide

theorem witness_EvtDataAckEffect :
    ((receiver .addressMatched).armed = true ∧ (receiver .addressMatched).isrActive = false ∧
        (receiver .addressMatched).brxState = .addressMatched) ∧
      ((receiver .idle).armed = true ∧ (receiver .idle).isrActive = false ∧
        (receiver .idle).brxState ≠ .addressMatched) ∧
      ((receiver .dataReceived).armed = true ∧ (receiver .dataReceived).isrActive = false ∧
        (receiver .dataReceived).brxState ≠ .addressMatched) := by decide

theorem witness_EvtOtherEffect :
    ∃ status : Byte, (status ≠ Config.params.scSlaAck ∧ status ≠ Config.params.scDataAck) ∧
      (receiver .addressMatched).armed = true ∧ (receiver .addressMatched).isrActive = false := by
  obtain ⟨c, hc⟩ := exists_other_code Config.params.scSlaAck Config.params.scDataAck
  exact ⟨c, hc, rfl, rfl⟩

theorem witness_EventHeldWhileUnready :
    (State.resetWith drawn Env.empty).armed = false ∧ (running none 0).isrActive = true ∧
      ({ running none 0 with armed := true } : State).isrActive = true := by decide

theorem witness_TransitionTable :
    ∀ b : BrxState, (receiver b).armed = true ∧ (receiver b).isrActive = false ∧ (receiver b).brxState = b := by
  intro b
  cases b <;> decide

theorem witness_EveryEventRearmsOnce :
    HandshakeInv launched ∧ launched.ackEn = true ∧ launched.evtValid = false := ⟨launched_inv, rfl, rfl⟩

theorem witness_StepRunsDecodedInstruction :
    (setPlaced (some (.command 1)) launched).env.placed = some (.command 1) ∧ State.reset.env.placed = none ∧
      ((running (some .opening) 9).isrActive = true ∧ seqFetch (running (some .opening) 9) = some (.wait 50)) := by
  decide

theorem witness_RunIsAnInterleaving : State.reset.env.placed = none := rfl

theorem witness_EvtDeliverStep :
    (receiver .dataReceived).armed = true ∧ (running none 0).armed = false := by decide

/-- Each way into the handler, a data event in each of the other two receiver states among them. -/
theorem witness_IsrEnterStep :
    (∀ b e, (pending b e).isrActive = false ∧ (pending b e).evtValid = true ∧ (pending b e).evtStatus = e.status ∧
        (pending b e).brxState = b) ∧
      (∃ c : Byte, c ≠ Config.params.scSlaAck ∧ ¬(c = Config.params.scDataAck ∧ BrxState.addressMatched = .addressMatched)) ∧
      (Config.params.scDataAck ≠ Config.params.scSlaAck ∧
        ¬(Config.params.scDataAck = Config.params.scDataAck ∧ BrxState.idle = .addressMatched) ∧
        ¬(Config.params.scDataAck = Config.params.scDataAck ∧ BrxState.dataReceived = .addressMatched)) ∧
      (launched.isrActive = false ∧ launched.evtValid = false) := by
  obtain ⟨c, h1, h2⟩ := exists_other_code Config.params.scSlaAck Config.params.scDataAck
  exact ⟨fun _ _ => ⟨rfl, rfl, rfl, rfl⟩, ⟨c, h1, fun h => h2 h.1⟩,
    ⟨(Params.codes_distinct Config.params_legal).symm, by simp, by simp⟩, rfl, rfl⟩

theorem witness_IsrStepRunsElement :
    ((running (some .closing) 0).isrActive = true ∧
        (running (some .closing) 0).seqPc.toNat < (seq (running (some .closing) 0).seqCmd).length) ∧
      (running (some .closing) 81).seqPc.toNat < (seq (running (some .closing) 81).seqCmd).length ∧
      ((running none 0).isrActive = true ∧ (running none 0).seqCmd = none ∧ (running none 0).seqPc = 0) := by decide

theorem witness_IsrExitStep :
    ((running (some .closing) 82).isrActive = true ∧
        (running (some .closing) 82).seqPc.toNat = (seq (running (some .closing) 82).seqCmd).length) ∧
      ∃ t, agentStep .isr (running (some .closing) 81) = .next t ∧ Choice.isr.agent ≠ .rst ∧
        ¬(Choice.isr = .isr ∧ (running (some .closing) 81).isrActive = true ∧
          (running (some .closing) 81).seqPc.toNat = (seq (running (some .closing) 81).seqCmd).length) :=
  ⟨by decide, _, rfl, by decide, by decide⟩

theorem witness_MainToggleSteps :
    (launched.isrActive = false ∧ launched.tglPending = false) ∧
      ((mainTglRead launched).isrActive = false ∧ (mainTglRead launched).tglPending = true) ∧
      (running none 0).isrActive = true := by decide

/-- The instance whose PWM_TOP the last clause of PwmPeriodStep speaks of may have one. -/
theorem witness_PwmPeriodStep : ∃ f : FreeParams, ∃ top, (Params.ofFree f).pwmTop = some top :=
  ⟨{ (default : FreeParams) with pwmSlack := some 0 }, _, rfl⟩

theorem witness_ResetLeavesQuiescentState :
    (Choice.bus ⟨0x60, 0⟩).agent = .bus ∧ Choice.isr.agent = .isr ∧ Choice.pwm.agent ≠ .boot := by decide

/-- Before boot, MAIN's toggle already pending: not of the form `State.resetWith` any more. -/
theorem witness_ResetLeavesQuiescentState_before_boot :
    HandshakeInv (mainTglRead (State.resetWith drawn Env.empty)) ∧
      (mainTglRead (State.resetWith drawn Env.empty)).ackEn = false ∧
      (mainTglRead (State.resetWith drawn Env.empty)).tglPending = true :=
  have h := reset_inv
  ⟨⟨h.inert, h.armedIff, h.activePending, h.quiet, h.inSequence, h.counts, h.angleInRange⟩, rfl, rfl⟩

theorem witness_LaunchStateEnabledSteps :
    (Choice.isr = .isr ∨ Choice.isr = .boot) ∧ (Choice.boot = .isr ∨ Choice.boot = .boot) := by decide

theorem witness_HandshakeInvKept :
    (∃ t, HandshakeInv (setPlaced (some (.command 1)) launched) ∧
        step (setPlaced (some (.command 1)) launched) = .next t) ∧
      ∃ t, HandshakeInv (running (some .closing) 82) ∧ agentStep .isr (running (some .closing) 82) = .next t ∧
        Choice.isr.agent ≠ .rst ∧ (running (some .closing) 82).ackEn = true :=
  have h := launched_inv
  ⟨⟨_, ⟨h.inert, h.armedIff, h.activePending, h.quiet, h.inSequence, h.counts, h.angleInRange⟩, rfl⟩,
    _, running_inv _ _ (by decide), rfl, by decide, rfl⟩

/-- A TRACE that says what the outputs hold. -/
def traced : State :=
  { launched with trace := [.ocrWrite 555, .led true, .pulse 666, .rearm], rearmCount := 1 }

theorem witness_TraceInvKept :
    (∃ t, TraceInv (setPlaced (some (.command 1)) traced) ∧ step (setPlaced (some (.command 1)) traced) = .next t) ∧
      ∃ t, TraceInv traced ∧ agentStep .pwm traced = .next t ∧ Choice.pwm.agent ≠ .rst ∧
        replayOutputs (0, false, 0) traced.trace = (traced.ocr, traced.led, traced.pwmActive) :=
  ⟨⟨_, ⟨⟨(0, false, 0), rfl⟩, by decide⟩, rfl⟩, _, ⟨⟨(0, false, 0), rfl⟩, by decide⟩, rfl, by decide, rfl⟩

/-- A handler inside Twitch, a pulse among its actions; `n` elements run. -/
def insideTwitch (n : SeqIndex) (tr : List Action) : State :=
  { running (some .twitching) n with trace := [.rearm, .mainLed true] ++ tr }

theorem witness_SequenceOrderKept :
    (∃ t u, OrderInv (insideTwitch 2 [.ocrWrite (pulseFor Config.params 155), .pulse 7, .wait 4]) ∧
        (insideTwitch 2 [.ocrWrite (pulseFor Config.params 155), .pulse 7, .wait 4]).env.placed = none ∧
        step (insideTwitch 2 [.ocrWrite (pulseFor Config.params 155), .pulse 7, .wait 4]) = .next t ∧
        agentStep .isr (insideTwitch 2 [.ocrWrite (pulseFor Config.params 155), .pulse 7, .wait 4]) = .next u) ∧
      OrderInv (insideTwitch 23 ((seq (some .twitching)).map (primAction Config.params))) ∧
      (insideTwitch 23 []).isrActive = true ∧
      (insideTwitch 23 []).seqPc.toNat = (seq (insideTwitch 23 []).seqCmd).length := by
  obtain ⟨t, ht, -⟩ := step_cases (insideTwitch 2 [.ocrWrite (pulseFor Config.params 155), .pulse 7, .wait 4])
  exact ⟨⟨t, _, fun _ => ⟨2, by decide, rfl⟩, rfl, ht, rfl⟩, fun _ => ⟨2, by simp [insideTwitch], rfl⟩, rfl, rfl⟩

theorem witness_EventEqualsSmallSteps :
    ∀ b : BrxState, (receiver b).armed = true ∧ (receiver b).isrActive = false ∧ (receiver b).brxState = b := by
  intro b
  cases b <;> decide

theorem witness_CommandEqualsSmallSteps :
    ∀ c : Behaviour, (running (some c) 0).isrActive = true ∧ (running (some c) 0).seqCmd = some c ∧
      (running (some c) 0).seqPc = 0 := by
  intro c
  cases c <;> decide

/-- The longest sequence from its first element, and a handler with nothing left but its exit. -/
theorem witness_HandlerAlwaysReachesRearm :
    (HandshakeInv (running (some .unrecognized) 0) ∧ (running (some .unrecognized) 0).isrActive = true ∧
        401 = (seq (some .unrecognized)).length - (0 : SeqIndex).toNat) ∧
      (HandshakeInv (running none 0) ∧ (running none 0).isrActive = true ∧
        0 = (seq none).length - (0 : SeqIndex).toNat) :=
  ⟨⟨running_inv _ _ (Nat.zero_le _), rfl, by decide +kernel⟩, running_inv _ _ (Nat.zero_le _), rfl, by decide⟩

/-- The agents in turn, the bus with an event of CFG_A. -/
def inTurn (n : Nat) : Choice := [Choice.bus ⟨0x60, 0⟩, .isr, .main, .pwm][n % 4]!

/-- A run under `inTurn`, from a handler that has everything still to do. -/
def turns : Nat → State
  | 0 => running (some .unrecognized) 0
  | n + 1 => (nextState (agentStep (inTurn n) (turns n))).getD (turns n)

theorem turns_interleaving : Interleaving inTurn turns := by
  intro n
  obtain ⟨t, ht, -⟩ := agentStep_moves (inTurn n) (turns n)
  rw [ht, turns, ht]
  rfl

theorem inTurn_fair (run : Nat → State) : WeaklyFair inTurn run := by
  intro a ha n _
  have at_ (k : Nat) (hk : k < 4) : inTurn (4 * n + k) = [Choice.bus ⟨0x60, 0⟩, .isr, .main, .pwm][k]! := by
    simp [inTurn, Nat.mod_eq_of_lt hk]
  simp only [agents, List.mem_cons, List.not_mem_nil, or_false] at ha
  obtain rfl | rfl | rfl | rfl := ha
  · exact ⟨4 * n + 0, by omega, congrArg Choice.agent (at_ 0 (by omega))⟩
  · exact ⟨4 * n + 1, by omega, congrArg Choice.agent (at_ 1 (by omega))⟩
  · exact ⟨4 * n + 2, by omega, congrArg Choice.agent (at_ 2 (by omega))⟩
  · exact ⟨4 * n + 3, by omega, congrArg Choice.agent (at_ 3 (by omega))⟩

/-- A weakly fair run with an event pending. -/
theorem witness_HandlerAlwaysReachesRearm_fair :
    Interleaving inTurn turns ∧ WeaklyFair inTurn turns ∧ HandshakeInv (turns 0) ∧ (turns 0).evtValid = true :=
  ⟨turns_interleaving, inTurn_fair turns, running_inv _ _ (Nat.zero_le _), rfl⟩

theorem witness_GhostStateUnread :
    traced.withoutGhost = launched.withoutGhost ∧ traced ≠ launched ∧ (∃ t, agentStep .pwm traced = .next t) ∧
      ∃ t, step traced = .next t := by
  obtain ⟨t, ht, -⟩ := step_cases traced
  exact ⟨rfl, by decide, ⟨_, rfl⟩, t, ht⟩

theorem witness_IdleAndDataReceivedAlike :
    (pending .idle ⟨0x80, 1⟩).mergeIdle = (pending .dataReceived ⟨0x80, 1⟩).mergeIdle ∧
      pending .idle ⟨0x80, 1⟩ ≠ pending .dataReceived ⟨0x80, 1⟩ ∧
      (∃ t, agentStep .isr (pending .idle ⟨0x80, 1⟩) = .next t) ∧ ∃ t, step (pending .idle ⟨0x80, 1⟩) = .next t := by
  obtain ⟨t, ht, -⟩ := step_cases (pending .idle ⟨0x80, 1⟩)
  exact ⟨rfl, by decide, ⟨_, rfl⟩, t, ht⟩

theorem witness_MainContextFrame : (running none 0).isrActive = true := rfl

/-- CMD_ANGLE, 44 before, is 0 after the first element of Open. -/
theorem witness_OnlyHandlerWritesActuator :
    ∃ t, agentStep .isr (running (some .opening) 0) = .next t ∧ Choice.isr.agent ≠ .rst ∧
      t.cmdAngle = 0 ∧ (running (some .opening) 0).cmdAngle = 44 := ⟨_, rfl, by decide, rfl, rfl⟩

theorem witness_PwmActiveChangesAtBoundary :
    ∃ t u, agentStep .pwm launched = .next t ∧ Choice.pwm.agent ≠ .rst ∧
      agentStep (.bus ⟨0x60, 0⟩) launched = .next u ∧ (Choice.bus ⟨0x60, 0⟩).agent ≠ .rst :=
  ⟨_, _, rfl, by decide, rfl, by decide⟩

theorem witness_LatchHeldWhilePending :
    ∃ t, HandshakeInv (running none 0) ∧ (running none 0).evtValid = true ∧
      agentStep (.bus ⟨0x60, 0⟩) (running none 0) = .next t ∧ (Choice.bus ⟨0x60, 0⟩).agent ≠ .rst :=
  ⟨_, running_inv _ _ (by decide), rfl, rfl, by decide⟩

theorem witness_HandlerDecisionIgnoresOutputs :
    (pending .addressMatched ⟨0x80, 2⟩).isrActive = false ∧ (pending .addressMatched ⟨0x80, 2⟩).evtValid = true ∧
      (pending .addressMatched ⟨0x80, 2⟩).withOutputs State.reset ≠ pending .addressMatched ⟨0x80, 2⟩ := by decide

theorem witness_AcknowledgeStaysEnabled :
    ∃ t, agentStep .isr (running none 0) = .next t ∧ Choice.isr.agent ≠ .rst ∧ (running none 0).ackEn = true ∧
      t.rearmCount ≠ (running none 0).rearmCount :=
  ⟨_, rfl, by decide, rfl, by decide⟩

end Sys2Proof.Tests
end

/-! PROOFS. The scope of `00_scope.md`: the configuration of R5 and R6, and the interleaving of R7. -/

namespace Sys2Proof

/-! ## The configuration (R6) -/

namespace Machine

theorem checkParams_legal {p : Params} (h : p.legal = true) : checkParams p = .ok p := if_pos h

theorem checkParams_illegal {p : Params} (h : ¬p.legal = true) : checkParams p = .error .illegalConfiguration :=
  if_neg h

/-- Settles O7: R6's constraints are `legal`, which `checkParams` tests and every value of `Params.ofFree` has. -/
theorem configurationConstraints : Obligations.ConfigurationConstraints :=
  ⟨fun p => ⟨fun h => checkParams_legal (p.legal_iff.2 h), fun h => checkParams_illegal fun hl => h (p.legal_iff.1 hl)⟩,
    checkParams_legal Config.params_legal⟩

end Machine

/-! ## Every legal configuration has seeds (log 7) -/

theorem Params.pulseMax_le_pwmTop {p : Params} (h : p.legal = true) {top : Nat} (htop : p.pwmTop = some top) :
    p.pulseMax ≤ top := by
  obtain ⟨-, -, -, hall⟩ := p.legal_iff.1 h
  exact hall top htop

/-- Distinct codes are a positive distance apart. -/
theorem Params.codeGap_pos {p : Params} (h : p.legal = true) : 0 < (p.scDataAck - p.scSlaAck).toNat := by
  have hne := Params.codes_distinct h
  bv_omega

/-- The seeds of a legal configuration: the distance of its codes, its step, its minimum, and what PWM_TOP has above
the last entry. -/
def Params.seeds (p : Params) (h : p.legal = true) : FreeParams where
  ownAddr := p.ownAddr
  bitRate := p.bitRate
  scSlaAck := p.scSlaAck
  scDataGap := ⟨(p.scDataAck - p.scSlaAck).toNat - 1, by have := Params.codeGap_pos h; omega⟩
  stepLessOne := ⟨p.pulseStep - 1, by have := Params.pulseMax_lt h; omega⟩
  minSeed := p.pulseMin
  pwmSlack := p.pwmTop.map (· - p.pulseMax)

theorem Params.ofFree_seeds_pulseStep {p : Params} (h : p.legal = true) :
    (Params.ofFree (p.seeds h)).pulseStep = p.pulseStep :=
  Nat.sub_add_cancel (Params.one_le_step h)

theorem Params.ofFree_seeds_scDataAck {p : Params} (h : p.legal = true) :
    (Params.ofFree (p.seeds h)).scDataAck = p.scDataAck := by
  have hgap := Params.codeGap_pos h
  simp only [Params.ofFree, Params.seeds, Nat.sub_add_cancel hgap, BitVec.ofNat_toNat, BitVec.setWidth_eq]
  bv_omega

/-- `ofFree` reduces its seed of the minimum so that the last entry fits 16 bits. -/
theorem Params.ofFree_pulseMin (f : FreeParams) :
    (Params.ofFree f).pulseMin = f.minSeed % (2 ^ 16 - 179 * (Params.ofFree f).pulseStep) := rfl

theorem Params.ofFree_seeds_pulseMin {p : Params} (h : p.legal = true) :
    (Params.ofFree (p.seeds h)).pulseMin = p.pulseMin := by
  have hmax := Params.pulseMax_lt h
  rw [Params.ofFree_pulseMin, Params.ofFree_seeds_pulseStep h]
  exact Nat.mod_eq_of_lt (show p.pulseMin < 2 ^ 16 - 179 * p.pulseStep by omega)

theorem Params.ofFree_seeds_pulseMax {p : Params} (h : p.legal = true) :
    (Params.ofFree (p.seeds h)).pulseMax = p.pulseMax := by
  simp only [Params.pulseMax, Params.ofFree_seeds_pulseMin h, Params.ofFree_seeds_pulseStep h]

/-- `ofFree` puts PWM_TOP, where it is given, the slack above the last entry. -/
theorem Params.ofFree_pwmTop (f : FreeParams) :
    (Params.ofFree f).pwmTop = f.pwmSlack.map ((Params.ofFree f).pulseMax + ·) := rfl

theorem Params.ofFree_seeds_pwmTop {p : Params} (h : p.legal = true) :
    (Params.ofFree (p.seeds h)).pwmTop = p.pwmTop := by
  rw [Params.ofFree_pwmTop, Params.ofFree_seeds_pulseMax h]
  cases htop : p.pwmTop with
  | none => simp [Params.seeds, htop]
  | some top =>
    have hle : p.pulseMax ≤ top := Params.pulseMax_le_pwmTop h htop
    simp [Params.seeds, htop, Nat.add_sub_cancel' hle]

/-- Seeds give back the configuration they were taken from. -/
theorem Params.ofFree_seeds {p : Params} (h : p.legal = true) : Params.ofFree (p.seeds h) = p := by
  calc Params.ofFree (p.seeds h)
      = { p with
          scDataAck := (Params.ofFree (p.seeds h)).scDataAck
          pulseMin := (Params.ofFree (p.seeds h)).pulseMin
          pulseStep := (Params.ofFree (p.seeds h)).pulseStep
          pwmTop := (Params.ofFree (p.seeds h)).pwmTop } := rfl
    _ = p := by
        rw [Params.ofFree_seeds_scDataAck h, Params.ofFree_seeds_pulseMin h, Params.ofFree_seeds_pulseStep h,
          Params.ofFree_seeds_pwmTop h]

/-- Settles O8: a legal configuration is the image of its own seeds. -/
theorem everyLegalConfigurationCovered : Obligations.EveryLegalConfigurationCovered :=
  fun p h => ⟨p.seeds h, Params.ofFree_seeds h⟩

/-! ## A run is an interleaving (R7, R52) -/

namespace Machine

/-- The next `k` choices of the free schedule, after `n` have been taken (log 3). -/
def scheduled (n k : Nat) : List Choice := (List.range k).map fun i => Config.schedule (n + i)

theorem scheduled_succ (n k : Nat) : scheduled n (k + 1) = Config.schedule n :: scheduled (n + 1) k := by
  simp [scheduled, List.range_succ_eq_map, Function.comp_def, Nat.add_assoc, Nat.add_comm 1]

/-- Any list of choices answers a next state and leaves what stands outside unchanged. -/
theorem runChoices_next (cs : List Choice) (s : State) : ∃ t, runChoices cs s = .next t ∧ t.env = s.env := by
  induction cs generalizing s with
  | nil => exact ⟨s, rfl, rfl⟩
  | cons c cs ih =>
    obtain ⟨u, hu, -⟩ := agentStep_moves c s
    obtain ⟨t, ht, henv⟩ := ih u
    exact ⟨t, (runChoices_cons cs hu).trans ht, henv.trans (agentStep_env hu)⟩

/-- With no word placed, the machine takes the scheduled agent's step on the block and counts the choice outside. -/
theorem step_setEnv {e : Env} (he : e.placed = none) {s t : State}
    (h : agentStep (Config.schedule e.draws) s = .next t) :
    step (setEnv e s) = .next (setEnv { e with draws := e.draws + 1 } t) := by
  have hstep : step (setEnv e s) = agentStep (Config.schedule e.draws) (setEnv { e with draws := e.draws + 1 } s) :=
    step_unplaced he
  rw [hstep, agentStep_setEnv, h, andThen]

/-- The host's run and the run of the scheduled choices agree on the block; only the counter outside differs. -/
theorem coreRun_setEnv (k : Nat) {e : Env} (he : e.placed = none) {s t : State}
    (h : runChoices (scheduled e.draws k) s = .next t) :
    Host.Core.run core k (setEnv e s) = .next (setEnv { e with draws := e.draws + k } t) := by
  induction k generalizing e s with
  | zero =>
    obtain rfl : s = t := Host.Outcome.next.inj h
    rfl
  | succ k ih =>
    obtain ⟨u, hu, -⟩ := agentStep_moves (Config.schedule e.draws) s
    rw [scheduled_succ, runChoices_cons _ hu] at h
    have hrest := ih (e := { e with draws := e.draws + 1 }) he h
    rw [coreRun_succ core k (step_setEnv he hu), hrest]
    simp only [Nat.add_assoc, Nat.add_comm 1]

/-- Settles O35, by induction on the steps: each is the scheduled agent's, which reads nothing outside the block. -/
theorem runIsAnInterleaving : Obligations.RunIsAnInterleaving := by
  intro k s hs
  obtain ⟨t, ht, henv⟩ := runChoices_next (scheduled s.env.draws k) s
  exact ⟨t, ht, henv, coreRun_setEnv k hs ht⟩

end Machine

end Sys2Proof

/-! PROOFS. The state of `10_state.md`: the handshake invariant of R32, the outputs that TRACE replays and the ghost
state of R30, the acknowledge bit of R21. -/

namespace Sys2Proof.Machine

/-! ## What a step keeps -/

theorem moves_of_agentStep {c : Choice} {s t : State} (h : agentStep c s = .next t) : Moves c s t := by
  obtain ⟨u, hu, hm⟩ := agentStep_moves c s
  obtain rfl : u = t := Host.Outcome.next.inj (hu.symm.trans h)
  exact hm

/-- A word from outside runs a command's sequence or an event's handler (log 5). -/
theorem exec_decodeInput (w : InputWord) (s : State) :
    (∃ c, exec (decodeInput w) s = .next (dispatch Config.params c s)) ∨
      ∃ e, exec (decodeInput w) s = .next (handleEvent Config.params e s) := by
  cases w with
  | command code => exact .inl ⟨decodeCmd code, exec_command _ code s⟩
  | event e => exact .inr ⟨e, exec_decodeEvent e s⟩

theorem keptByAgents_of_moves {P : State → Prop} (h : ∀ c s t, P s → Moves c s t → P t) : KeptByAgents P :=
  fun c s t hs hst => h c s t hs (moves_of_agentStep hst)

/-- What every agent, command and event keeps, and what stands outside does not touch, the machine's step keeps. -/
theorem step_keeps {P : State → Prop} (hagents : KeptByAgents P) (henv : ∀ e s, P s → P (setEnv e s))
    (hcommand : ∀ c s, P s → P (dispatch Config.params c s))
    (hevent : ∀ e s, P s → P (handleEvent Config.params e s)) {s t : State} (hs : P s) (h : step s = .next t) :
    P t := by
  cases hp : s.env.placed with
  | none =>
    rw [step_unplaced hp] at h
    exact hagents _ _ _ (henv _ _ hs) h
  | some w =>
    have hs' : P (setPlaced none s) := henv _ _ hs
    rw [step_placed hp] at h
    obtain ⟨c, hc⟩ | ⟨e, he⟩ := exec_decodeInput w (setPlaced none s)
    · obtain rfl := Host.Outcome.next.inj (hc.symm.trans h)
      exact hcommand c _ hs'
    · obtain rfl := Host.Outcome.next.inj (he.symm.trans h)
      exact hevent e _ hs'

/-- Everything `ISR_ENTER` can change (R132). -/
theorem isrEnter_spec (p : Params) (s : State) :
    isrEnter p s =
      { s with
        isrActive := true
        eventCount := s.eventCount + 1
        brxState := (isrEnter p s).brxState
        rxData := (isrEnter p s).rxData
        seqCmd := (isrEnter p s).seqCmd
        seqPc := 0 } := by
  obtain h | ⟨h, hb⟩ | ⟨h, hb⟩ := isrEnter_cases p s
  · rw [isrEnter_address h]
  · rw [isrEnter_dispatch h hb]
  · rw [isrEnter_idle h hb]

@[simp] theorem isrEnter_isrActive (p : Params) (s : State) : (isrEnter p s).isrActive = true := by
  rw [isrEnter_spec]

@[simp] theorem isrEnter_ackEn (p : Params) (s : State) : (isrEnter p s).ackEn = s.ackEn := by
  rw [isrEnter_spec]

@[simp] theorem isrEnter_rearmCount (p : Params) (s : State) : (isrEnter p s).rearmCount = s.rearmCount := by
  rw [isrEnter_spec]

@[simp] theorem primEffect_ackEn (p : Params) (u : Prim) (s : State) : (primEffect p u s).ackEn = s.ackEn := by
  rw [primEffect_spec]

@[simp] theorem primEffect_rearmCount (p : Params) (u : Prim) (s : State) :
    (primEffect p u s).rearmCount = s.rearmCount := by
  rw [primEffect_spec]

@[simp] theorem runPrims_isrActive (p : Params) (us : List Prim) (s : State) :
    (runPrims p us s).isrActive = s.isrActive := by
  rw [runPrims_spec]

@[simp] theorem seqLen_runPrims (p : Params) (us : List Prim) (s : State) : seqLen (runPrims p us s) = seqLen s := by
  rw [runPrims_spec]
  rfl

theorem seqPc_lt_of_fetch {s : State} {u : Prim} (h : seqFetch s = some u) : s.seqPc.toNat < seqLen s :=
  (List.getElem?_eq_some_iff.1 h).1

/-- No sequence is so long that SEQ_PC wraps (R18). -/
theorem seqPc_succ_toNat {s : State} {u : Prim} (h : seqFetch s = some u) :
    (s.seqPc + 1).toNat = s.seqPc.toNat + 1 := by
  have hlt := seqPc_lt_of_fetch h
  have hlen : seqLen s ≤ 401 := seq_length_le s.seqCmd
  bv_omega

/-! ## ACK_EN (R21) -/

theorem Moves.ackEn_kept {c : Choice} {s t : State} (h : Moves c s t) (hc : c.agent ≠ .rst) (hs : s.ackEn = true) :
    t.ackEn = true := by
  cases h with
  | none | mainRead | mainWrite | pwm | deliver => exact hs
  | enter => rwa [isrEnter_ackEn]
  | element => rwa [advanceSeqPc_ackEn, primEffect_ackEn]
  | exit | boot => rfl
  | rst => exact absurd rfl hc

/-- Only `ISR_EXIT` counts a re-arm, and it leaves the responder armed with acknowledgment enabled (R135). -/
theorem Moves.armed_of_rearm {c : Choice} {s t : State} (h : Moves c s t) (hc : c.agent ≠ .rst)
    (hr : t.rearmCount ≠ s.rearmCount) : t.ackEn = true ∧ t.armed = true := by
  cases h with
  | none | mainRead | mainWrite | pwm | deliver | boot => exact absurd rfl hr
  | enter => exact absurd (isrEnter_rearmCount _ _) hr
  | element => exact absurd (by simp) hr
  | exit => exact ⟨rfl, rfl⟩
  | rst => exact absurd rfl hc

/-- Settles O60: no move but reset clears ACK_EN, and the one that counts a re-arm sets it and ARMED. -/
theorem acknowledgeStaysEnabled : Obligations.AcknowledgeStaysEnabled := by
  intro c s t h hc
  have hm := moves_of_agentStep h
  exact ⟨hm.ackEn_kept hc, hm.armed_of_rearm hc⟩

/-! ## The handshake invariant (R32) -/

/-- (g) is kept by an element: a MOVE_TO clamps what it writes to CMD_ANGLE, and the others write neither CMD_ANGLE nor
an `OcrWrite` (R90). -/
theorem primEffect_angleInRange {p : Params} {u : Prim} {s : State}
    (h : s.trace.any Action.isOcrWrite = true → s.cmdAngle.toNat ≤ 179) :
    (primEffect p u s).trace.any Action.isOcrWrite = true → (primEffect p u s).cmdAngle.toNat ≤ 179 := by
  cases u with
  | moveTo a =>
    have hclamp : (clampedAngle a).toNat ≤ 179 := by rw [clampedAngle_toNat]; exact Nat.min_le_right _ _
    exact fun _ => hclamp
  | ledSet b => simpa [primEffect, ledSet_eq] using h
  | wait n => simpa [primEffect, waitTicks_eq] using h

theorem handshakeInv_setEnv {s : State} (e : Env) (h : HandshakeInv s) : HandshakeInv (setEnv e s) :=
  ⟨h.inert, h.armedIff, h.activePending, h.quiet, h.inSequence, h.counts, h.angleInRange⟩

theorem handshakeInv_primEffect {p : Params} {s : State} (u : Prim) (h : HandshakeInv s) :
    HandshakeInv (primEffect p u s) := by
  have hangle := primEffect_angleInRange (p := p) (u := u) h.angleInRange
  rw [primEffect_spec] at hangle ⊢
  exact ⟨h.inert, h.armedIff, h.activePending, h.quiet, h.inSequence, h.counts, hangle⟩

theorem handshakeInv_runPrims {p : Params} (us : List Prim) {s : State} (h : HandshakeInv s) :
    HandshakeInv (runPrims p us s) := by
  induction us generalizing s with
  | nil => exact h
  | cons u us ih => exact ih (handshakeInv_primEffect u h)

/-- While a handler runs, SEQ_PC may stand anywhere in its sequence, or at its end. -/
theorem handshakeInv_setSeqPc {s : State} {n : SeqIndex} (h : HandshakeInv s) (hi : s.isrActive = true)
    (hn : n.toNat ≤ seqLen s) : HandshakeInv (setSeqPc n s) where
  inert := h.inert
  armedIff := h.armedIff
  activePending := h.activePending
  quiet hq := Bool.noConfusion (hi.symm.trans hq)
  inSequence := hn
  counts := h.counts
  angleInRange := h.angleInRange

theorem handshakeInv_evtDeliver {s : State} (e : BusEvent) (h : HandshakeInv s) (ha : s.armed = true) :
    HandshakeInv (evtDeliver e s) where
  inert hack := Bool.noConfusion (ha.symm.trans (h.inert hack).1)
  armedIff _ := ⟨nofun, nofun⟩
  activePending _ := rfl
  quiet := h.quiet
  inSequence := h.inSequence
  counts := h.counts
  angleInRange := h.angleInRange

theorem handshakeInv_isrEnter {p : Params} {s : State} (h : HandshakeInv s) (hi : s.isrActive = false)
    (hv : s.evtValid = true) : HandshakeInv (isrEnter p s) := by
  have hack : s.ackEn ≠ false := fun hack => Bool.noConfusion (hv.symm.trans (h.inert hack).2.1)
  rw [isrEnter_spec]
  exact {
    inert := fun hfalse => absurd hfalse hack
    armedIff := h.armedIff
    activePending := fun _ => hv
    quiet := nofun
    inSequence := Nat.zero_le _
    counts := by simpa [hi] using h.counts
    angleInRange := h.angleInRange }

theorem handshakeInv_isrExit {s : State} (h : HandshakeInv s) (hi : s.isrActive = true) :
    HandshakeInv (isrExit s) where
  inert := nofun
  armedIff _ := ⟨fun _ => rfl, fun _ => rfl⟩
  activePending := nofun
  quiet _ := ⟨rfl, rfl⟩
  inSequence := Nat.zero_le _
  counts := by simpa [hi, isrExit_eq] using h.counts
  angleInRange := by simpa [isrExit_eq] using h.angleInRange

theorem handshakeInv_mainTglRead {s : State} (h : HandshakeInv s) : HandshakeInv (mainTglRead s) :=
  ⟨h.inert, h.armedIff, h.activePending, h.quiet, h.inSequence, h.counts, h.angleInRange⟩

theorem handshakeInv_mainTglWrite {s : State} (h : HandshakeInv s) : HandshakeInv (mainTglWrite s) where
  inert := h.inert
  armedIff := h.armedIff
  activePending := h.activePending
  quiet := h.quiet
  inSequence := h.inSequence
  counts := h.counts
  angleInRange := by simpa [mainTglWrite] using h.angleInRange

theorem handshakeInv_pwmPeriod {s : State} (h : HandshakeInv s) : HandshakeInv (pwmPeriod s) where
  inert := h.inert
  armedIff := h.armedIff
  activePending := h.activePending
  quiet := h.quiet
  inSequence := h.inSequence
  counts := h.counts
  angleInRange := by simpa [pwmPeriod] using h.angleInRange

/-- Boot arms a block that is inert, so nothing is pending when it is armed (R182, R190). -/
theorem handshakeInv_bootOp {s : State} (h : HandshakeInv s) (hack : s.ackEn = false) : HandshakeInv (bootOp s) where
  inert := nofun
  armedIff _ := ⟨fun _ => (h.inert hack).2.1, fun _ => rfl⟩
  activePending := h.activePending
  quiet := h.quiet
  inSequence := h.inSequence
  counts := h.counts
  angleInRange := h.angleInRange

theorem handshakeInv_resetWith (d : ResetDraws) (e : Env) : HandshakeInv (State.resetWith d e) where
  inert _ := ⟨rfl, rfl, rfl⟩
  armedIff := nofun
  activePending := nofun
  quiet _ := ⟨rfl, rfl⟩
  inSequence := Nat.zero_le _
  counts := rfl
  angleInRange := nofun

theorem handshakeInv_moves (c : Choice) (s t : State) (h : HandshakeInv s) (hm : Moves c s t) : HandshakeInv t := by
  cases hm with
  | none => exact h
  | deliver ha => exact handshakeInv_evtDeliver _ h ha
  | enter hi hv => exact handshakeInv_isrEnter h hi hv
  | @element _ u hi hu =>
    have hle : s.seqPc.toNat + 1 ≤ seqLen s := seqPc_lt_of_fetch hu
    rw [advanceSeqPc, primEffect_seqPc]
    refine handshakeInv_setSeqPc (handshakeInv_primEffect _ h) (by simpa using hi) ?_
    rw [seqPc_succ_toNat hu, seqLen, primEffect_seqCmd]
    exact hle
  | exit hi => exact handshakeInv_isrExit h hi
  | mainRead => exact handshakeInv_mainTglRead h
  | mainWrite => exact handshakeInv_mainTglWrite h
  | pwm => exact handshakeInv_pwmPeriod h
  | boot hack => exact handshakeInv_bootOp h hack
  | rst d => exact handshakeInv_resetWith d s.env

/-- A running handler's sequence, run to its end. -/
theorem handshakeInv_runSequence {p : Params} {s : State} (h : HandshakeInv s) (hi : s.isrActive = true) :
    HandshakeInv (runSequence p s) := by
  refine handshakeInv_setSeqPc (handshakeInv_runPrims _ h) (by simpa using hi) ?_
  rw [seqLen_runPrims, BitVec.toNat_ofNat]
  exact Nat.mod_le _ _

theorem handshakeInv_handleEvent {p : Params} (e : BusEvent) (s : State) (h : HandshakeInv s) :
    HandshakeInv (handleEvent p e s) := by
  unfold handleEvent
  split
  case isFalse => exact h
  case isTrue hc =>
    obtain ⟨ha, hi⟩ := (canHandle_iff s).1 hc
    have hdelivered := handshakeInv_evtDeliver e h ha
    have hentered : HandshakeInv (isrEnter p (evtDeliver e s)) := handshakeInv_isrEnter hdelivered hi rfl
    have hrun := handshakeInv_runSequence (p := p) hentered (isrEnter_isrActive _ _)
    exact handshakeInv_isrExit hrun (by simp [runSequence])

/-- Settles O45: every move keeps R32, as do a whole command and a whole event; (f) is kept by every move but reset. -/
theorem handshakeInvKept : Obligations.HandshakeInvKept := by
  have hagents : KeptByAgents HandshakeInv := keptByAgents_of_moves handshakeInv_moves
  refine ⟨fun s t => step_keeps hagents (fun e _ => handshakeInv_setEnv e) ?_ handshakeInv_handleEvent, hagents, ?_⟩
  · exact fun c s h => handshakeInv_runPrims (seq (some c)) h
  · exact fun c s t _ hst hc hack => (moves_of_agentStep hst).ackEn_kept hc hack

/-- Settles O46: reset meets R32's form of log 28, and boot keeps it there. -/
theorem handshakeInvAtReset : Obligations.HandshakeInvAtReset :=
  ⟨handshakeInv_resetWith _ _, fun d e =>
    ⟨handshakeInv_resetWith d e, handshakeInv_bootOp (handshakeInv_resetWith d e) rfl, rfl⟩⟩

/-! ## The outputs and the re-arms in TRACE (R30) -/

section replayOutputs

variable (o : OcrWord × Bool × OcrWord) (tr : List Action)

@[simp] theorem replayOutputs_append_rearm : replayOutputs o (tr ++ [.rearm]) = replayOutputs o tr := by
  simp [replayOutputs]

@[simp] theorem replayOutputs_append_ocrWrite (v : OcrWord) :
    replayOutputs o (tr ++ [.ocrWrite v]) = (v, (replayOutputs o tr).2) := by
  simp [replayOutputs]

@[simp] theorem replayOutputs_append_led (b : Bool) :
    replayOutputs o (tr ++ [.led b]) = ((replayOutputs o tr).1, b, (replayOutputs o tr).2.2) := by
  simp [replayOutputs]

@[simp] theorem replayOutputs_append_mainLed (b : Bool) :
    replayOutputs o (tr ++ [.mainLed b]) = ((replayOutputs o tr).1, b, (replayOutputs o tr).2.2) := by
  simp [replayOutputs]

@[simp] theorem replayOutputs_append_wait (n : Count) : replayOutputs o (tr ++ [.wait n]) = replayOutputs o tr := by
  simp [replayOutputs]

@[simp] theorem replayOutputs_append_pulse (v : OcrWord) :
    replayOutputs o (tr ++ [.pulse v]) = ((replayOutputs o tr).1, (replayOutputs o tr).2.1, v) := by
  simp [replayOutputs]

end replayOutputs

/-- TRACE, replayed over `o`, gives the outputs. -/
def Replays (o : OcrWord × Bool × OcrWord) (s : State) : Prop :=
  replayOutputs o s.trace = (s.ocr, s.led, s.pwmActive)

/-- REARM_COUNT is the number of `Rearm`s in TRACE. -/
def CountsRearms (s : State) : Prop := s.trace.count .rearm = s.rearmCount

section Replays

variable {o : OcrWord × Bool × OcrWord} {p : Params} {s : State} (h : Replays o s)
include h

theorem replays_primEffect (u : Prim) : Replays o (primEffect p u s) := by
  unfold Replays at h ⊢
  cases u with
  | moveTo a => simp [primEffect, moveTo_eq, h]
  | ledSet b => simp [primEffect, ledSet_eq, h]
  | wait n => simp [primEffect, waitTicks_eq, h]

theorem replays_isrEnter : Replays o (isrEnter p s) := by
  rw [isrEnter_spec]
  exact h

theorem replays_isrExit : Replays o (isrExit s) :=
  (replayOutputs_append_rearm o s.trace).trans h

theorem replays_mainTglWrite : Replays o (mainTglWrite s) := by
  unfold Replays at h ⊢
  simp [mainTglWrite, h]

theorem replays_pwmPeriod : Replays o (pwmPeriod s) := by
  unfold Replays at h ⊢
  simp [pwmPeriod, h]

end Replays

theorem replays_runPrims {o : OcrWord × Bool × OcrWord} {p : Params} (us : List Prim) {s : State} (h : Replays o s) :
    Replays o (runPrims p us s) := by
  induction us generalizing s with
  | nil => exact h
  | cons u us ih => exact ih (replays_primEffect h u)

/-- No move but reset writes OCR, LED or PWM_ACTIVE without its action in TRACE. -/
theorem Moves.replays {o : OcrWord × Bool × OcrWord} {c : Choice} {s t : State} (hm : Moves c s t)
    (hc : c.agent ≠ .rst) (h : Replays o s) : Replays o t := by
  cases hm with
  | none | deliver | mainRead | boot => exact h
  | enter => exact replays_isrEnter h
  | element => exact replays_primEffect h _
  | exit => exact replays_isrExit h
  | mainWrite => exact replays_mainTglWrite h
  | pwm => exact replays_pwmPeriod h
  | rst => exact absurd rfl hc

theorem countsRearms_runPrims {p : Params} (us : List Prim) {s : State} (h : CountsRearms s) :
    CountsRearms (runPrims p us s) := by
  have hnone : (us.map (primAction p)).count .rearm = 0 := by
    simp [List.count_eq_zero, primAction_ne_rearm]
  rw [runPrims_spec]
  unfold CountsRearms at h ⊢
  rw [List.count_append, hnone, h, Nat.add_zero]

theorem countsRearms_isrEnter {p : Params} {s : State} (h : CountsRearms s) : CountsRearms (isrEnter p s) := by
  rw [isrEnter_spec]
  exact h

theorem countsRearms_isrExit {s : State} (h : CountsRearms s) : CountsRearms (isrExit s) := by
  unfold CountsRearms at h ⊢
  simp [isrExit_eq, h]

theorem Moves.countsRearms {c : Choice} {s t : State} (hm : Moves c s t) (h : CountsRearms s) : CountsRearms t := by
  cases hm with
  | none | deliver | mainRead | boot => exact h
  | enter => exact countsRearms_isrEnter h
  | @element _ u => exact countsRearms_runPrims [u] h
  | exit => exact countsRearms_isrExit h
  | mainWrite | pwm => simpa [CountsRearms, mainTglWrite, pwmPeriod] using h
  | rst => rfl

theorem traceInv_resetWith (d : ResetDraws) (e : Env) : TraceInv (State.resetWith d e) := ⟨⟨_, rfl⟩, rfl⟩

theorem traceInv_moves (c : Choice) (s t : State) (h : TraceInv s) (hm : Moves c s t) : TraceInv t := by
  by_cases hc : c.agent = .rst
  · cases hm with
    | none => exact h
    | rst d => exact traceInv_resetWith d s.env
    | _ => cases hc
  · obtain ⟨o, ho⟩ := h.outputs
    exact ⟨⟨o, hm.replays hc ho⟩, hm.countsRearms h.rearms⟩

theorem replays_handleEvent {o : OcrWord × Bool × OcrWord} {p : Params} {e : BusEvent} {s : State}
    (h : Replays o s) : Replays o (handleEvent p e s) := by
  unfold handleEvent
  split
  · exact replays_isrExit (replays_runPrims _ (replays_isrEnter h))
  · exact h

theorem countsRearms_handleEvent {p : Params} {e : BusEvent} {s : State} (h : CountsRearms s) :
    CountsRearms (handleEvent p e s) := by
  unfold handleEvent
  split
  · exact countsRearms_isrExit (countsRearms_runPrims _ (countsRearms_isrEnter h))
  · exact h

theorem traceInv_dispatch {p : Params} (c : Behaviour) (s : State) (h : TraceInv s) : TraceInv (dispatch p c s) := by
  obtain ⟨o, ho⟩ := h.outputs
  exact ⟨⟨o, replays_runPrims _ ho⟩, countsRearms_runPrims _ h.rearms⟩

theorem traceInv_handleEvent {p : Params} (e : BusEvent) (s : State) (h : TraceInv s) :
    TraceInv (handleEvent p e s) := by
  obtain ⟨o, ho⟩ := h.outputs
  exact ⟨⟨o, replays_handleEvent ho⟩, countsRearms_handleEvent h.rearms⟩

/-- Settles O47: every move keeps `TraceInv`, as do a whole command and a whole event; every move but reset keeps what
TRACE replays over given first contents. -/
theorem traceInvKept : Obligations.TraceInvKept := by
  have hagents : KeptByAgents TraceInv := keptByAgents_of_moves traceInv_moves
  refine ⟨fun s t => step_keeps hagents ?_ traceInv_dispatch traceInv_handleEvent, hagents, ?_⟩
  · exact fun e s h => ⟨h.outputs, h.rearms⟩
  · exact fun c s t o hc hst => (moves_of_agentStep hst).replays hc

/-- Settles O48: after reset TRACE is empty and no handler runs. -/
theorem traceInvAtReset : Obligations.TraceInvAtReset :=
  fun d e => ⟨traceInv_resetWith d e, nofun⟩

/-! ## The ghost state is read by nothing (R30) -/

/-- What an operation leaves of the real state does not depend on the ghost state. -/
def IgnoresGhost (f : State → State) : Prop := ∀ s, (f s.withoutGhost).withoutGhost = (f s).withoutGhost

/-- The same of what may fault or be refused, for the real state of a next state. -/
def OutcomeIgnoresGhost (f : State → Host.Outcome State Fault Refusal) : Prop :=
  ∀ s, andThen (f s.withoutGhost) State.withoutGhost = andThen (f s) State.withoutGhost

theorem IgnoresGhost.comp {f g : State → State} (hg : IgnoresGhost g) (hf : IgnoresGhost f) :
    IgnoresGhost fun s => g (f s) := fun s => by
  calc (g (f s.withoutGhost)).withoutGhost
      = (g (f s.withoutGhost).withoutGhost).withoutGhost := (hg _).symm
    _ = (g (f s).withoutGhost).withoutGhost := by rw [hf s]
    _ = (g (f s)).withoutGhost := hg _

theorem IgnoresGhost.next {f : State → State} (hf : IgnoresGhost f) : OutcomeIgnoresGhost fun s => .next (f s) :=
  fun s => congrArg Host.Outcome.next (hf s)

/-- A guard that does not see the ghost state decides alike with it and without it. -/
theorem OutcomeIgnoresGhost.ite {b : State → Bool} {f g : State → Host.Outcome State Fault Refusal}
    (hb : ∀ s, b s.withoutGhost = b s) (hf : OutcomeIgnoresGhost f) (hg : OutcomeIgnoresGhost g) :
    OutcomeIgnoresGhost fun s => if b s then f s else g s := by
  intro s
  simp only [hb]
  split
  · exact hf s
  · exact hg s

theorem id_ignoresGhost : IgnoresGhost fun s => s := fun _ => rfl

theorem primEffect_ignoresGhost (p : Params) (u : Prim) : IgnoresGhost (primEffect p u) := by
  intro s
  cases u <;> rfl

theorem runPrims_ignoresGhost (p : Params) (us : List Prim) : IgnoresGhost (runPrims p us) := by
  induction us with
  | nil => exact fun _ => rfl
  | cons u us ih => exact ih.comp (primEffect_ignoresGhost p u)

theorem isrEnter_ignoresGhost (p : Params) : IgnoresGhost (isrEnter p) := by
  intro s
  obtain h | ⟨h, hb⟩ | ⟨h, hb⟩ := isrEnter_cases p s
  · rw [isrEnter_address h, isrEnter_address (s := s.withoutGhost) h]; rfl
  · rw [isrEnter_dispatch h hb, isrEnter_dispatch (s := s.withoutGhost) h hb]; rfl
  · rw [isrEnter_idle h hb, isrEnter_idle (s := s.withoutGhost) h hb]; rfl

theorem runSequence_ignoresGhost (p : Params) : IgnoresGhost (runSequence p) := fun s =>
  congrArg (setSeqPc (BitVec.ofNat 9 (seqLen s))) (runPrims_ignoresGhost p (seq s.seqCmd) s)

theorem evtDeliver_ignoresGhost (e : BusEvent) : IgnoresGhost (evtDeliver e) := fun _ => rfl

theorem isrExit_ignoresGhost : IgnoresGhost isrExit := fun _ => rfl

theorem handleEvent_ignoresGhost (p : Params) (e : BusEvent) : IgnoresGhost (handleEvent p e) := by
  have hrun := isrExit_ignoresGhost.comp <| (runSequence_ignoresGhost p).comp <|
    (isrEnter_ignoresGhost p).comp (evtDeliver_ignoresGhost e)
  intro s
  have hcan : canHandle s.withoutGhost = canHandle s := rfl
  simp only [handleEvent, hcan]
  split
  · exact hrun s
  · rfl

theorem exec_decodeInput_ignoresGhost (w : InputWord) : OutcomeIgnoresGhost (exec (decodeInput w)) := by
  intro s
  cases w with
  | command code =>
    simp only [decodeInput, decodeCommand, exec_command]
    exact (runPrims_ignoresGhost _ _).next s
  | event e =>
    simp only [decodeInput, exec_decodeEvent]
    exact (handleEvent_ignoresGhost _ e).next s

theorem busStep_ignoresGhost (e : BusEvent) : OutcomeIgnoresGhost (busStep e) :=
  .ite (fun _ => rfl) (evtDeliver_ignoresGhost e).next id_ignoresGhost.next

/-- The sequencer without a ghost state stands at the same element of the same sequence. -/
theorem isrStep_ignoresGhost : OutcomeIgnoresGhost isrStep := by
  intro s
  have hactive : s.withoutGhost.isrActive = s.isrActive := rfl
  have hvalid : s.withoutGhost.evtValid = s.evtValid := rfl
  have hfetch : seqFetch s.withoutGhost = seqFetch s := rfl
  have hpc : s.withoutGhost.seqPc = s.seqPc := rfl
  have hlen : seqLen s.withoutGhost = seqLen s := rfl
  simp only [isrStep, hactive, hvalid, hfetch, hpc, hlen]
  split
  case isFalse =>
    split
    · exact (isrEnter_ignoresGhost _).next s
    · rfl
  case isTrue =>
    split
    next u _ =>
      have hadvance : IgnoresGhost advanceSeqPc := fun _ => rfl
      simp only [exec_prim, andThen]
      exact (hadvance.comp (primEffect_ignoresGhost _ u)).next s
    · split
      · exact isrExit_ignoresGhost.next s
      · rfl

theorem mainStep_ignoresGhost : OutcomeIgnoresGhost mainStep :=
  have hread : IgnoresGhost mainTglRead := fun _ => rfl
  have hwrite : IgnoresGhost mainTglWrite := fun _ => rfl
  .ite (fun _ => rfl) hread.next (.ite (fun _ => rfl) hwrite.next id_ignoresGhost.next)

theorem bootStep_ignoresGhost : OutcomeIgnoresGhost bootStep :=
  have hboot : IgnoresGhost bootOp := fun _ => rfl
  .ite (fun _ => rfl) id_ignoresGhost.next hboot.next

theorem agentStep_ignoresGhost (c : Choice) : OutcomeIgnoresGhost (agentStep c) := by
  cases c with
  | bus e => exact busStep_ignoresGhost e
  | isr => exact isrStep_ignoresGhost
  | main => exact mainStep_ignoresGhost
  | boot => exact bootStep_ignoresGhost
  | pwm | rst => exact fun _ => rfl

theorem step_ignoresGhost : OutcomeIgnoresGhost step := by
  intro s
  have henv : s.withoutGhost.env = s.env := rfl
  cases hp : s.env.placed with
  | none =>
    rw [step_unplaced hp, step_unplaced (s := s.withoutGhost) hp, henv]
    exact agentStep_ignoresGhost _ (takeDraw s)
  | some w =>
    rw [step_placed hp, step_placed (s := s.withoutGhost) hp]
    exact exec_decodeInput_ignoresGhost w (setPlaced none s)

theorem enabled_withoutGhost (a : Agent) (s : State) : enabled a s.withoutGhost = enabled a s := by
  cases a <;> rfl

theorem of_andThen_eq_next {o : Host.Outcome State Fault Refusal} {f : State → State} {t : State}
    (h : andThen o f = .next t) : ∃ u, o = .next u ∧ f u = t := by
  cases o with
  | next u => exact ⟨u, rfl, Host.Outcome.next.inj h⟩
  | fault _ | refused _ => cases h

/-- What ignores the ghost state leads from states alike but for it to states alike but for it. -/
theorem OutcomeIgnoresGhost.alike {f : State → Host.Outcome State Fault Refusal} (hf : OutcomeIgnoresGhost f)
    {s₁ s₂ t₁ : State} (hs : s₁.withoutGhost = s₂.withoutGhost) (h : f s₁ = .next t₁) :
    ∃ t₂, f s₂ = .next t₂ ∧ t₁.withoutGhost = t₂.withoutGhost := by
  have hboth : andThen (f s₂) State.withoutGhost = .next t₁.withoutGhost := by
    rw [← hf s₂, ← hs, hf s₁, h, andThen]
  obtain ⟨t₂, h₂, ht⟩ := of_andThen_eq_next hboth
  exact ⟨t₂, h₂, ht.symm⟩

/-- Settles O53: each operation, hence each agent's step and the machine's, leaves the same real state with the ghost
state and without it. -/
theorem ghostStateUnread : Obligations.GhostStateUnread := by
  intro s₁ s₂ hs
  refine ⟨fun a => ?_, fun c _ => (agentStep_ignoresGhost c).alike hs, fun _ => step_ignoresGhost.alike hs⟩
  rw [← enabled_withoutGhost a s₁, hs, enabled_withoutGhost]

end Sys2Proof.Machine

/-! PROOFS. The memory of `20_memory.md`: the pulse table of R41, the nominal step of R43 and the event latch of R55. -/

namespace Sys2Proof.Machine

/-! ## The pulse table (R41) -/

/-- PULSE_MAX is the table's last entry (R5). -/
theorem entry_le_pulseMax (p : Params) (i : Fin nAngles) : p.pulseMin + i.val * p.pulseStep ≤ p.pulseMax :=
  Nat.add_le_add_left (Nat.mul_le_mul_right _ (Nat.le_of_lt_succ i.isLt)) _

/-- Settles O11: R6 bounds the last entry below 2^16, and the sums rise to it. -/
theorem tableEntriesNeverWrap : Obligations.TableEntriesNeverWrap := by
  intro p h i
  have hexact := tblRead_val h i
  exact ⟨hexact, hexact ▸ entry_le_pulseMax p i⟩

/-! ## The step of a nominal pair (R43) -/

theorem stepOfNominal_div_add_mod (minPulse maxPulse : Nat) :
    358 * stepOfNominal minPulse maxPulse + (2 * (maxPulse - minPulse) + 179) % 358 =
      2 * (maxPulse - minPulse) + 179 :=
  Nat.div_add_mod _ _

/-- Settles O12: the remainder of the rounding division is below the divisor and, since an odd number is divided by an
even one, is not 0, which is the tie. -/
theorem nominalStepIsNearest : Obligations.NominalStepIsNearest := by
  intro minPulse maxPulse _
  have hdiv := stepOfNominal_div_add_mod minPulse maxPulse
  have hlt : (2 * (maxPulse - minPulse) + 179) % 358 < 358 := Nat.mod_lt _ (by decide)
  have hpos : 0 < (2 * (maxPulse - minPulse) + 179) % 358 := by omega
  constructor
  · omega
  · omega

/-! ## The event latch (R55) -/

@[simp] theorem isrEnter_evtStatus (p : Params) (s : State) : (isrEnter p s).evtStatus = s.evtStatus := by
  rw [isrEnter_spec]

@[simp] theorem isrEnter_evtData (p : Params) (s : State) : (isrEnter p s).evtData = s.evtData := by
  rw [isrEnter_spec]

@[simp] theorem primEffect_evtStatus (p : Params) (u : Prim) (s : State) :
    (primEffect p u s).evtStatus = s.evtStatus := by
  rw [primEffect_spec]

@[simp] theorem primEffect_evtData (p : Params) (u : Prim) (s : State) : (primEffect p u s).evtData = s.evtData := by
  rw [primEffect_spec]

/-- A pending event means a responder booted (R182) and, by R32(a), not armed. -/
theorem HandshakeInv.unarmed_of_pending {s : State} (h : HandshakeInv s) (hv : s.evtValid = true) :
    s.armed ≠ true := by
  intro ha
  cases hack : s.ackEn with
  | false => exact Bool.noConfusion (ha.symm.trans (h.inert hack).1)
  | true => exact Bool.noConfusion (hv.symm.trans ((h.armedIff hack).1 ha))

/-- Besides reset only `EVT_DELIVER` writes the latch, and it requires ARMED (R131). -/
theorem Moves.latch_kept {c : Choice} {s t : State} (h : Moves c s t) (hc : c.agent ≠ .rst) (ha : s.armed ≠ true) :
    t.evtStatus = s.evtStatus ∧ t.evtData = s.evtData := by
  cases h with
  | deliver harmed => exact absurd harmed ha
  | enter => exact ⟨isrEnter_evtStatus _ _, isrEnter_evtData _ _⟩
  | element => simp
  | none | exit | mainRead | mainWrite | pwm | boot => exact ⟨rfl, rfl⟩
  | rst => exact absurd rfl hc

/-- Settles O58: a pending event leaves the responder unarmed, so no `EVT_DELIVER` can write the latch. -/
theorem latchHeldWhilePending : Obligations.LatchHeldWhilePending := by
  intro c s t hinv hv h hc
  exact (moves_of_agentStep h).latch_kept hc (hinv.unarmed_of_pending hv)

end Sys2Proof.Machine

/-! PROOFS. The encodings of `30_encoding.md`: the command byte (R61), the bus event (R62), the micro-operation (R60)
and the durations (R67). -/

namespace Sys2Proof

/-- `r` is the word of `i`, a well-formed instruction. -/
def IsWordOf (p : Params) (r : Raw) (i : Instr) : Prop := i.wfWith p = true ∧ encodeWith p i = r

/-! ## The command byte, format C (R61) -/

theorem decodeCmd_other {b : Byte} (h1 : b ≠ Machine.openCode) (h2 : b ≠ Machine.closeCode)
    (h3 : b ≠ Machine.twitchCode) : decodeCmd b = .unrecognized := by
  rw [decodeCmd, if_neg h1, if_neg h2, if_neg h3]

theorem decodeCommand_other {b : Byte} (h1 : b ≠ Machine.openCode) (h2 : b ≠ Machine.closeCode)
    (h3 : b ≠ Machine.twitchCode) : decodeCommand b = .cmdUnrecognized b := by
  rw [decodeCommand, decodeCmd_other h1 h2 h3, Behaviour.instr]

theorem wfWith_cmdUnrecognized (p : Params) (code : Byte) :
    (Instr.cmdUnrecognized code).wfWith p = true ↔
      code ≠ Machine.openCode ∧ code ≠ Machine.closeCode ∧ code ≠ Machine.twitchCode := by
  simp [Instr.wfWith, and_assoc]

theorem isWordOf_decodeCommand (p : Params) (b : Byte) : IsWordOf p (.command b) (decodeCommand b) := by
  by_cases h1 : b = Machine.openCode
  · subst h1; exact ⟨rfl, rfl⟩
  by_cases h2 : b = Machine.closeCode
  · subst h2; exact ⟨rfl, rfl⟩
  by_cases h3 : b = Machine.twitchCode
  · subst h3; exact ⟨rfl, rfl⟩
  rw [decodeCommand_other h1 h2 h3]
  exact ⟨(wfWith_cmdUnrecognized p b).2 ⟨h1, h2, h3⟩, rfl⟩

theorem countP_unrecognized :
    (List.range 256).countP (fun n => decide (decodeCmd (BitVec.ofNat 8 n) = .unrecognized)) = 253 := by
  decide +kernel

/-- Settles O1: each byte falls through the comparisons it fails, and the 256 bytes are counted. -/
theorem commandByteDecoding : Obligations.CommandByteDecoding :=
  ⟨rfl, rfl, rfl, fun _ => decodeCmd_other, countP_unrecognized⟩

/-! ## The bus event, format E (R62) -/

theorem decodeEvent_sla (p : Params) (data : Byte) : decodeEvent p p.scSlaAck data = .evtSlaAck data := by
  simp only [decodeEvent, classifyEvt_sla]

theorem decodeEvent_data {p : Params} (h : p.scSlaAck ≠ p.scDataAck) (data : Byte) :
    decodeEvent p p.scDataAck data = .evtDataAck data := by
  simp only [decodeEvent, classifyEvt, if_neg h.symm, if_pos]

theorem decodeEvent_other {p : Params} {status : Byte} (h1 : status ≠ p.scSlaAck) (h2 : status ≠ p.scDataAck)
    (data : Byte) : decodeEvent p status data = .evtOther status data := by
  simp only [decodeEvent, classifyEvt_other h1 h2]

theorem wfWith_evtOther (p : Params) (status data : Byte) :
    (Instr.evtOther status data).wfWith p = true ↔ status ≠ p.scSlaAck ∧ status ≠ p.scDataAck := by
  simp [Instr.wfWith]

/-- Also where the two codes are one: the event is then EVT_SLA_ACK, whose word has that code. -/
theorem isWordOf_decodeEvent (p : Params) (status data : Byte) :
    IsWordOf p (.event status data) (decodeEvent p status data) := by
  by_cases h1 : status = p.scSlaAck
  · rw [h1, decodeEvent_sla]
    exact ⟨rfl, rfl⟩
  by_cases h2 : status = p.scDataAck
  · subst h2
    rw [decodeEvent_data (Ne.symm h1)]
    exact ⟨rfl, rfl⟩
  rw [decodeEvent_other h1 h2]
  exact ⟨(wfWith_evtOther p status data).2 ⟨h1, h2⟩, rfl⟩

/-- Settles O2: the two codes are distinct (R6), so each class is told by its own comparison. -/
theorem statusClassification : Obligations.StatusClassification := by
  intro p hp s
  by_cases h1 : s = p.scSlaAck
  · simp [h1, classifyEvt_sla, Params.codes_distinct hp]
  by_cases h2 : s = p.scDataAck
  · simp [h2, classifyEvt_data hp, (Params.codes_distinct hp).symm]
  simp [h1, h2, classifyEvt_other h1 h2]

/-! ## The micro-operation, format U (R60, log 9): its operands -/

theorem angleOperand_setWidth (a : Angle) : angleOperand (a.setWidth 32) = .ok a := by
  have hlt : (a.setWidth 32).toNat < 256 := by
    rw [BitVec.toNat_setWidth_of_le (by decide)]
    exact a.isLt
  rw [angleOperand, if_pos hlt, BitVec.setWidth_setWidth_of_le a (by decide), BitVec.setWidth_eq]

theorem bitOperand_bitWord (b : Bool) : bitOperand (bitWord b) = .ok b := by
  cases b <;> rfl

theorem setWidth_of_angleOperand {v : Count} {a : Angle} (h : angleOperand v = .ok a) : a.setWidth 32 = v := by
  unfold angleOperand at h
  split at h
  next hlt =>
    cases h
    apply BitVec.eq_of_toNat_eq
    simp only [BitVec.toNat_setWidth]
    omega
  next => cases h

theorem bitWord_of_bitOperand {v : Count} {b : Bool} (h : bitOperand v = .ok b) : bitWord b = v := by
  unfold bitOperand at h
  split at h
  next h0 => cases h; exact h0.symm
  next =>
    split at h
    next h1 => cases h; exact h1.symm
    next => cases h

theorem angleOperand_wide {v : Count} (h : 256 ≤ v.toNat) : angleOperand v = .error .operandRange :=
  if_neg (Nat.not_lt.2 h)

theorem bitOperand_wide {v : Count} (h : 2 ≤ v.toNat) : bitOperand v = .error .operandRange := by
  have h0 : v ≠ 0 := by rintro rfl; exact absurd h (by decide)
  have h1 : v ≠ 1 := by rintro rfl; exact absurd h (by decide)
  rw [bitOperand, if_neg h0, if_neg h1]

theorem of_map_eq_ok {α β ε : Type} {f : α → β} {x : Except ε α} {b : β} (h : x.map f = .ok b) :
    ∃ a, x = .ok a ∧ f a = b := by
  cases x with
  | ok a => exact ⟨a, rfl, Except.ok.inj h⟩
  | error e => cases h

/-! ## The micro-operation: its tag table -/

/-- The rows of the tag table (R60) and what is outside of them: what a tag and its operands may decode to. -/
inductive MicroRow : BitVec 3 → List Count → Except DecodeError Instr → Prop where
  | pulseFor (a : Count) : MicroRow 0 [a] ((angleOperand a).map .pulseFor)
  | moveTo (a : Count) : MicroRow 1 [a] ((angleOperand a).map .moveTo)
  | ledSet (b : Count) : MicroRow 2 [b] ((bitOperand b).map .ledSet)
  | ledToggle : MicroRow 3 [] (.ok .ledToggle)
  | blink (c on off : Count) : MicroRow 4 [c, on, off] (.ok (.blink c on off))
  | wait (n : Count) : MicroRow 5 [n] (.ok (.wait n))
  | rearm : MicroRow 6 [] (.ok .rearm)
  | unknownTag (operands : List Count) : MicroRow 7 operands (.error .unknownTag)
  | operandCount (tag : BitVec 3) (operands : List Count) : MicroRow tag operands (.error .operandCount)

theorem tag_cases (tag : BitVec 3) :
    tag = 0 ∨ tag = 1 ∨ tag = 2 ∨ tag = 3 ∨ tag = 4 ∨ tag = 5 ∨ tag = 6 ∨ tag = 7 := by
  revert tag
  decide

/-- Decoding follows the table. -/
theorem microRow_decodeMicro (tag : BitVec 3) (operands : List Count) :
    MicroRow tag operands (decodeMicro tag operands) := by
  obtain rfl | rfl | rfl | rfl | rfl | rfl | rfl | rfl := tag_cases tag
  · exact match operands with
      | [a] => .pulseFor a
      | [] | _ :: _ :: _ => .operandCount _ _
  · exact match operands with
      | [a] => .moveTo a
      | [] | _ :: _ :: _ => .operandCount _ _
  · exact match operands with
      | [b] => .ledSet b
      | [] | _ :: _ :: _ => .operandCount _ _
  · exact match operands with
      | [] => .ledToggle
      | _ :: _ => .operandCount _ _
  · exact match operands with
      | [c, on, off] => .blink c on off
      | [] | [_] | [_, _] | _ :: _ :: _ :: _ :: _ => .operandCount _ _
  · exact match operands with
      | [n] => .wait n
      | [] | _ :: _ :: _ => .operandCount _ _
  · exact match operands with
      | [] => .rearm
      | _ :: _ => .operandCount _ _
  · exact .unknownTag operands

/-- A row that gives an instruction has its word. -/
theorem MicroRow.isWordOf {p : Params} {tag : BitVec 3} {operands : List Count} {i : Instr}
    (h : MicroRow tag operands (.ok i)) : IsWordOf p (.micro tag operands) i := by
  generalize hr : Except.ok i = r at h
  cases h with
  | pulseFor v | moveTo v =>
    obtain ⟨a, ha, rfl⟩ := of_map_eq_ok hr.symm
    exact ⟨rfl, by rw [encodeWith, setWidth_of_angleOperand ha]⟩
  | ledSet v =>
    obtain ⟨b, hb, rfl⟩ := of_map_eq_ok hr.symm
    exact ⟨rfl, by rw [encodeWith, bitWord_of_bitOperand hb]⟩
  | ledToggle | blink | wait | rearm => cases hr; exact ⟨rfl, rfl⟩
  | unknownTag | operandCount => cases hr

/-- Tag 7 apart, only the row outside the table admits a number of operands that is not the tag's. -/
theorem MicroRow.eq_operandCount {tag : BitVec 3} {operands : List Count} {r : Except DecodeError Instr}
    (h : MicroRow tag operands r) (htag : tag ≠ 7)
    (hlen : operands.length ≠ (if tag = 3 ∨ tag = 6 then 0 else if tag = 4 then 3 else 1)) :
    r = .error .operandCount := by
  cases h with
  | pulseFor | moveTo | ledSet | ledToggle | blink | wait | rearm => exact absurd rfl hlen
  | unknownTag => exact absurd rfl htag
  | operandCount => rfl

/-- Settles O6: the operands' own refusals, and the table's for every word that is in none of its rows. -/
theorem microWordsRefusedByName : Obligations.MicroWordsRefusedByName := by
  intro p
  refine ⟨fun _ => rfl, fun v hv => ⟨?_, ?_⟩, fun v hv => ?_, fun tag operands htag hlen => ?_⟩
  · exact congrArg (Except.map Instr.pulseFor) (angleOperand_wide hv)
  · exact congrArg (Except.map Instr.moveTo) (angleOperand_wide hv)
  · exact congrArg (Except.map Instr.ledSet) (bitOperand_wide hv)
  · exact (microRow_decodeMicro tag operands).eq_operandCount htag hlen

/-! ## The three formats together -/

/-- Settles O3: each word is decoded. -/
theorem knownWordsDecode : Obligations.KnownWordsDecode :=
  ⟨rfl, rfl, rfl, rfl, rfl, rfl, rfl, rfl, rfl, rfl⟩

/-- Settles O4, by cases on the instruction: the codes and tags that the encoder writes are those that the decoder
compares with, and an operand comes back from its widening. -/
theorem decodeEncodeRoundTrip : Obligations.DecodeEncodeRoundTrip := by
  intro p hp i hwf
  cases i with
  | cmdOpen | cmdClose | cmdTwitch => rfl
  | cmdUnrecognized code =>
    obtain ⟨h1, h2, h3⟩ := (wfWith_cmdUnrecognized p code).1 hwf
    exact congrArg Except.ok (decodeCommand_other h1 h2 h3)
  | evtSlaAck data => exact congrArg Except.ok (decodeEvent_sla p data)
  | evtDataAck data => exact congrArg Except.ok (decodeEvent_data (Params.codes_distinct hp) data)
  | evtOther status data =>
    obtain ⟨h1, h2⟩ := (wfWith_evtOther p status data).1 hwf
    exact congrArg Except.ok (decodeEvent_other h1 h2 data)
  | pulseFor a => exact congrArg (Except.map Instr.pulseFor) (angleOperand_setWidth a)
  | moveTo a => exact congrArg (Except.map Instr.moveTo) (angleOperand_setWidth a)
  | ledSet b => exact congrArg (Except.map Instr.ledSet) (bitOperand_bitWord b)
  | ledToggle | blink | wait | rearm => rfl

/-- Settles O5, by cases on the word's format: every byte and every pair decodes to what it is the word of (R68), and
of a micro-operation's word the tag table says it. -/
theorem acceptedWordsAreEncodings : Obligations.AcceptedWordsAreEncodings := by
  intro p r i h
  cases r with
  | command code =>
    cases h
    exact isWordOf_decodeCommand p code
  | event status data =>
    cases h
    exact isWordOf_decodeEvent p status data
  | micro tag operands =>
    have hrow := microRow_decodeMicro tag operands
    rw [show decodeMicro tag operands = .ok i from h] at hrow
    exact hrow.isWordOf

end Sys2Proof

/-! ## Durations (R67) -/

namespace Sys2Proof.Machine

theorem ticksOfMs_onGrid {ms : Count} (h : ms.toNat % 16 = 0) :
    ticksOfMs ms = .ok (BitVec.ofNat 32 (ms.toNat / 16)) :=
  if_pos h

theorem ticksOfMs_offGrid {ms : Count} (h : ms.toNat % 16 ≠ 0) : ticksOfMs ms = .error .offTickGrid :=
  if_neg h

/-- Settles O13: the quotient is no larger than the duration, so it fits the operand's 32 bits. -/
theorem ticksOfMilliseconds : Obligations.TicksOfMilliseconds := by
  refine ⟨fun ms h => ⟨_, ticksOfMs_onGrid h, ?_⟩, fun _ => ticksOfMs_offGrid, rfl, rfl, rfl⟩
  have hfit : ms.toNat / 16 < 2 ^ 32 := Nat.lt_of_le_of_lt (Nat.div_le_self _ _) ms.isLt
  rw [BitVec.toNat_ofNat, Nat.mod_eq_of_lt hfit]

end Sys2Proof.Machine

/-! PROOFS. PulseMapper of `40_pulse_mapper.md`: the clamp (R80), the mapping's laws (R81, R83) and PULSE_FOR (R82). -/

namespace Sys2Proof.Machine

/-! ## The clamp (R80) -/

theorem clamp_val_of_le {a : Angle} (h : a.toNat ≤ 179) : (clamp a).val = a.toNat := Nat.min_eq_left h

theorem clamp_val_of_ge {a : Angle} (h : 179 ≤ a.toNat) : (clamp a).val = 179 := Nat.min_eq_right h

theorem clamp_val_le (a : Angle) : (clamp a).val ≤ 179 := Nat.min_le_right _ _

theorem clamp_clampedAngle (a : Angle) : clamp (clampedAngle a) = clamp a := by
  apply Fin.ext
  rw [clamp_val_of_le (clampedAngle_toNat a ▸ clamp_val_le a), clampedAngle_toNat, clamp_val]

/-- Settles O9: the minimum with 179 is the angle in the lower range and 179 in the upper, and a clamped angle is in the
lower. -/
theorem clampSaturates : Obligations.ClampSaturates :=
  fun a => ⟨clamp_val_of_le, fun h => clamp_val_of_ge (Nat.le_of_succ_le h), clamp_val_le a, clamp_clampedAngle a⟩

/-! ## The laws of the mapping (R83) -/

theorem pulseFor_eq_tblRead (p : Params) (a : Angle) : pulseFor p a = tblRead p (clamp a) := rfl

/-- The mapping is flat from 179 up. -/
theorem pulseFor_saturated (p : Params) {a : Angle} (h : 179 ≤ a.toNat) : pulseFor p a = pulseFor p 179 :=
  congrArg (tblRead p) (Fin.ext (clamp_val_of_ge h))

section legal
variable {p : Params} (h : p.legal = true)
include h

/-- R83's difference law as a sum, so that no truncated subtraction of pulse values is in it. -/
theorem pulseFor_linear {a b : Angle} (hab : a.toNat ≤ b.toNat) (hb : b.toNat ≤ 179) :
    (pulseFor p a).toNat + (b.toNat - a.toNat) * p.pulseStep = (pulseFor p b).toNat := by
  rw [pulseFor_val h, pulseFor_val h, Nat.min_eq_left (hab.trans hb), Nat.min_eq_left hb, Nat.add_assoc,
    ← Nat.add_mul, Nat.add_sub_cancel' hab]

theorem pulseFor_strictMono {a b : Angle} (hab : a.toNat < b.toNat) (hb : b.toNat ≤ 179) :
    (pulseFor p a).toNat < (pulseFor p b).toNat := by
  have hrise : 0 < (b.toNat - a.toNat) * p.pulseStep := Nat.mul_pos (Nat.sub_pos_of_lt hab) (Params.one_le_step h)
  rw [← pulseFor_linear h hab.le hb]
  exact Nat.lt_add_of_pos_right hrise

theorem pulseFor_mono {a b : Angle} (hab : a.toNat ≤ b.toNat) : (pulseFor p a).toNat ≤ (pulseFor p b).toNat := by
  rw [pulseFor_val h, pulseFor_val h]
  gcongr

theorem pulseFor_zero : (pulseFor p 0).toNat = p.pulseMin := by
  rw [pulseFor_val h, show min (0 : Angle).toNat 179 = 0 from rfl, Nat.zero_mul, Nat.add_zero]

theorem pulseFor_angleMax : (pulseFor p 179).toNat = p.pulseMax := pulseFor_val h 179

end legal

/-- Settles O10: an entry is the exact sum (R41), so a difference of angles is that many steps, and a step is at least 1
(R6). -/
theorem pulseTableStrictlyLinear : Obligations.PulseTableStrictlyLinear := by
  intro p h
  refine ⟨fun a => ⟨pulseFor_eq_tblRead p a, tblRead_val h _⟩, fun a b hab hb => ⟨pulseFor_strictMono h hab hb, ?_⟩,
    fun _ _ => pulseFor_mono h, pulseFor_zero h, pulseFor_angleMax h,
    fun _ ha => pulseFor_saturated p (Nat.le_of_succ_le ha)⟩
  exact Nat.sub_eq_of_eq_add' (pulseFor_linear h hab.le hb).symm

/-! ## PULSE_FOR (R82) -/

theorem exec_pulseFor (a : Angle) (s : State) : exec (.pulseFor a) s = .next s := rfl

/-- The clamp as R82's pseudocode writes it. -/
theorem clamp_val_eq_ite (a : Angle) : (clamp a).val = if 180 ≤ a.toNat then 179 else a.toNat := by
  split
  case isTrue hge => exact clamp_val_of_ge (Nat.le_of_succ_le hge)
  case isFalse hlt => exact clamp_val_of_le (Nat.le_of_not_lt hlt)

/-- Settles O14: the operation hands the state on, and the value is the exact entry (R41) at R82's index. -/
theorem pulseForReturnsEntry : Obligations.PulseForReturnsEntry := by
  refine ⟨fun a s => ⟨exec_pulseFor a s, rfl, ?_⟩, rfl⟩
  rw [← clamp_val_eq_ite]
  exact tblRead_val Config.params_legal _

end Sys2Proof.Machine

/-! PROOFS. ActuatorDriver of `41_actuator_driver.md`: MOVE_TO (R90), which alone writes OCR and CMD_ANGLE (R92), and
the PWM generator, which alone writes PWM_ACTIVE (R93, R94). -/

namespace Sys2Proof.Machine

/-! ## MOVE_TO (R90) -/

theorem exec_moveTo (a : Angle) (s : State) : exec (.moveTo a) s = .next (moveTo Config.params a s) :=
  exec_prim (.moveTo a) s

/-- Settles O15: the value written is the exact entry (R41) at the clamped angle, and CMD_ANGLE, 8 bits wide, holds that
angle. -/
theorem moveToEffect : Obligations.MoveToEffect := by
  refine ⟨fun a s => ⟨_, exec_moveTo a s, ?_, ?_, moveTo_eq _ _ _⟩, fun _ => ⟨rfl, rfl⟩⟩
  · rw [← clamp_val_eq_ite]
    exact tblRead_val Config.params_legal _
  · rw [← clamp_val_eq_ite]
    exact clampedAngle_toNat a

/-! ## The one writer of OCR and CMD_ANGLE (R92) -/

/-- OCR or CMD_ANGLE differs between two states. -/
def ActuatorChanged (s t : State) : Prop := t.ocr ≠ s.ocr ∨ t.cmdAngle ≠ s.cmdAngle

theorem not_actuatorChanged {s t : State} (hocr : t.ocr = s.ocr) (hangle : t.cmdAngle = s.cmdAngle) :
    ¬ActuatorChanged s t :=
  not_or.2 ⟨not_not.2 hocr, not_not.2 hangle⟩

@[simp] theorem isrEnter_ocr (p : Params) (s : State) : (isrEnter p s).ocr = s.ocr := by
  rw [isrEnter_spec]

@[simp] theorem isrEnter_cmdAngle (p : Params) (s : State) : (isrEnter p s).cmdAngle = s.cmdAngle := by
  rw [isrEnter_spec]

theorem eq_moveTo_of_actuatorChanged {p : Params} {u : Prim} {s : State} (h : ActuatorChanged s (primEffect p u s)) :
    ∃ a, u = .moveTo a := by
  cases u with
  | moveTo a => exact ⟨a, rfl⟩
  | ledSet | wait => exact absurd h (not_actuatorChanged rfl rfl)

/-- Besides reset only an element of a running handler's sequence can write OCR or CMD_ANGLE. -/
theorem Moves.moveTo_of_actuatorChanged {c : Choice} {s t : State} (hm : Moves c s t) (hc : c.agent ≠ .rst)
    (h : ActuatorChanged s t) : c = .isr ∧ s.isrActive = true ∧ ∃ a, seqFetch s = some (.moveTo a) := by
  cases hm with
  | element hactive hfetch =>
    obtain ⟨a, rfl⟩ := eq_moveTo_of_actuatorChanged h
    exact ⟨rfl, hactive, a, hfetch⟩
  | enter => exact absurd h (not_actuatorChanged (isrEnter_ocr _ _) (isrEnter_cmdAngle _ _))
  | none | deliver | exit | mainRead | mainWrite | pwm | boot => exact absurd h (not_actuatorChanged rfl rfl)
  | rst => exact absurd rfl hc

/-- Settles O56: the one move but reset that writes OCR or CMD_ANGLE runs an element, and the one element that does is a
MOVE_TO. -/
theorem onlyHandlerWritesActuator : Obligations.OnlyHandlerWritesActuator := by
  intro c s t h hc hchanged
  exact (moves_of_agentStep h).moveTo_of_actuatorChanged hc hchanged

/-! ## The PWM generator (R93, R94) -/

theorem pwmPeriod_eq (s : State) :
    pwmPeriod s = { s with pwmActive := s.ocr, trace := s.trace ++ [.pulse s.ocr] } := rfl

/-- `PWM_PERIOD` is enabled in every state. -/
theorem agentStep_pwm (s : State) : agentStep .pwm s = .next (pwmPeriod s) := rfl

theorem actuationDuty_of_pwmTop {p : Params} {top : Nat} (h : p.pwmTop = some top) (s : State) :
    actuationDuty p s = some (s.pwmActive.toNat, top) := by
  rw [actuationDuty, h, Option.map_some]

/-- Settles O41: the step hands OCR to PWM_ACTIVE, the numerator of the line's duty. -/
theorem pwmPeriodStep : Obligations.PwmPeriodStep :=
  fun s => ⟨_, agentStep_pwm s, pwmPeriod_eq s, fun _ htop => actuationDuty_of_pwmTop htop (pwmPeriod s)⟩

@[simp] theorem isrEnter_pwmActive (p : Params) (s : State) : (isrEnter p s).pwmActive = s.pwmActive := by
  rw [isrEnter_spec]

@[simp] theorem primEffect_pwmActive (p : Params) (u : Prim) (s : State) :
    (primEffect p u s).pwmActive = s.pwmActive := by
  rw [primEffect_spec]

theorem Moves.pwmActive_kept {c : Choice} {s t : State} (h : Moves c s t) (hpwm : c.agent ≠ .pwm)
    (hrst : c.agent ≠ .rst) : t.pwmActive = s.pwmActive := by
  cases h with
  | pwm => exact absurd rfl hpwm
  | rst => exact absurd rfl hrst
  | enter => exact isrEnter_pwmActive _ _
  | element => exact primEffect_pwmActive _ _ _
  | none | deliver | exit | mainRead | mainWrite | boot => rfl

theorem eq_pwm_of_agent {c : Choice} (h : c.agent = .pwm) : c = .pwm := by
  cases c with
  | pwm => rfl
  | bus | isr | main | boot | rst => cases h

/-- Settles O57: PWM's step, never disabled, takes OCR, and no other agent's move but reset writes PWM_ACTIVE. -/
theorem pwmActiveChangesAtBoundary : Obligations.PwmActiveChangesAtBoundary := by
  intro c s t h hrst
  split
  case isTrue hpwm =>
    obtain rfl := eq_pwm_of_agent hpwm
    obtain rfl := Host.Outcome.next.inj ((agentStep_pwm s).symm.trans h)
    rfl
  case isFalse hpwm => exact (moves_of_agentStep h).pwmActive_kept hpwm hrst

end Sys2Proof.Machine

/-! PROOFS. IndicatorDriver of `42_indicator_driver.md`: LED_SET (R100), LED_TOGGLE's two forms (R101, R102) and BLINK
(R103, R104). -/

namespace Sys2Proof.Machine

/-! ## LED_SET (R100) -/

theorem exec_ledSet (b : Bool) (s : State) : exec (.ledSet b) s = .next (ledSet b s) := exec_prim (.ledSet b) s

/-- Settles O16: LED_SET is an element, and its effect is the write and its action. -/
theorem ledSetEffect : Obligations.LedSetEffect := by
  intro b s
  rw [exec_ledSet, ledSet_eq]

/-! ## LED_TOGGLE (R101) -/

theorem exec_ledToggle (s : State) : exec .ledToggle s = .next (ledToggle s) := rfl

theorem ledToggle_eq (s : State) : ledToggle s = { s with led := !s.led } := rfl

/-- Settles O17: the indivisible form is one write of LED, with no action. -/
theorem ledToggleEffect : Obligations.LedToggleEffect := by
  intro s
  rw [exec_ledToggle, ledToggle_eq]

/-! ## The main context's toggle in two steps (R102) -/

theorem mainTglRead_eq (s : State) : mainTglRead s = { s with tglTmp := s.led, tglPending := true } := rfl

theorem mainTglWrite_eq (s : State) :
    mainTglWrite s =
      { s with led := !s.tglTmp, tglPending := false, trace := s.trace ++ [.mainLed (!s.tglTmp)] } := rfl

theorem canMainRead_iff (s : State) : canMainRead s = true ↔ s.isrActive = false ∧ s.tglPending = false := by
  simp [canMainRead]

theorem canMainWrite_iff (s : State) : canMainWrite s = true ↔ s.isrActive = false ∧ s.tglPending = true := by
  simp [canMainWrite]

theorem agentStep_main_read {s : State} (h : canMainRead s = true) : agentStep .main s = .next (mainTglRead s) :=
  if_pos h

theorem agentStep_main_write {s : State} (hr : ¬canMainRead s = true) (hw : canMainWrite s = true) :
    agentStep .main s = .next (mainTglWrite s) :=
  (if_neg hr).trans (if_pos hw)

theorem agentStep_main_disabled {s : State} (hr : ¬canMainRead s = true) (hw : ¬canMainWrite s = true) :
    agentStep .main s = .next s :=
  (if_neg hr).trans (if_neg hw)

/-- Settles O40: TGL_PENDING tells which of the two `require`s holds, and a running handler excludes both. -/
theorem mainToggleSteps : Obligations.MainToggleSteps := by
  intro s
  refine ⟨fun hidle hnone => ?_, fun hidle hpending => ?_, fun hactive => ?_⟩
  · rw [agentStep_main_read ((canMainRead_iff s).2 ⟨hidle, hnone⟩), mainTglRead_eq]
  · have hr : ¬canMainRead s = true := by simp [canMainRead_iff, hpending]
    rw [agentStep_main_write hr ((canMainWrite_iff s).2 ⟨hidle, hpending⟩), mainTglWrite_eq]
  · exact agentStep_main_disabled (by simp [canMainRead_iff, hactive]) (by simp [canMainWrite_iff, hactive])

/-! ## BLINK (R103, R104) -/

/-- A count is 0 when its value is, so that a blink is empty exactly for `c = 0`. -/
theorem runPrims_blinkSeq (p : Params) (c on off : Count) (s : State) :
    runPrims p (blinkSeq c on off) s =
      { s with led := if c = 0 then s.led else false, trace := s.trace ++ cycles c.toNat on off } := by
  have hzero : c = 0 ↔ c.toNat = 0 := BitVec.toNat_eq
  simp only [hzero]
  exact runPrims_cycles p c.toNat on off s

theorem exec_blink (c on off : Count) (s : State) :
    exec (.blink c on off) s = .next (runPrims Config.params (blinkSeq c on off) s) := rfl

/-- R104: each cycle sets the indicator on once and off once. -/
theorem count_led_cycles (b : Bool) (n : Nat) (on off : Count) : (cycles n on off).count (.led b) = n := by
  induction n with
  | zero => rfl
  | succ n ih =>
    have hcycle : [Action.led true, .wait on, .led false, .wait off].count (.led b) = 1 := by cases b <;> rfl
    rw [cycles_succ, List.count_append, hcycle, ih, Nat.add_comm]

theorem length_cycles (n : Nat) (on off : Count) : (cycles n on off).length = 4 * n := by
  induction n with
  | zero => rfl
  | succ n ih => rw [cycles_succ, List.length_append, ih, Nat.mul_succ, Nat.add_comm]; rfl

/-- Settles O18: a blink's expansion is run cycle by cycle, and its actions are counted cycle by cycle. -/
theorem blinkEffect : Obligations.BlinkEffect := by
  intro c on off s
  refine ⟨?_, count_led_cycles true _ on off, count_led_cycles false _ on off, length_cycles _ on off⟩
  rw [exec_blink, runPrims_blinkSeq]

end Sys2Proof.Machine

/-! PROOFS. CommandDispatcher of `43_command_dispatcher.md`: WAIT (R117), the sequence store (R110), the effect of each
command (R111 to R114), its waits (R121) and its independence of what came before (R119), the order of a handler's
actions (R118, R120), and the command as the run of its ISR_STEPs (R116, R134). -/

namespace Sys2Proof.Machine

/-! ## The order of a handler's actions (R118, R120) -/

/-- An action appended to TRACE is appended to what any handler that has already begun has emitted, unless it is a
pulse. -/
theorem filter_drop_append_action {mark : Nat} {tr : List Action} (h : mark ≤ tr.length) (a : Action) :
    ((tr ++ [a]).drop mark).filter Action.notPulse =
      (tr.drop mark).filter Action.notPulse ++ [a].filter Action.notPulse := by
  rw [List.drop_append_of_le_length h, List.filter_append]

/-- Where no handler runs, there is no order to keep. -/
theorem orderInv_of_idle {s : State} (h : s.isrActive = false) : OrderInv s :=
  fun hactive => Bool.noConfusion (h.symm.trans hactive)

/-- A handler's part of TRACE begins, empty, at `ISR_ENTER`. -/
theorem orderInv_isrEnter (p : Params) (s : State) : OrderInv (isrEnter p s) := by
  rw [isrEnter_spec]
  exact fun _ => ⟨s.trace.length, Nat.le_refl _, by simp⟩

/-- One element more has run, and its action is the last of the handler's part. -/
theorem orderInv_element {s : State} {u : Prim} (hactive : s.isrActive = true) (hu : seqFetch s = some u)
    (h : OrderInv s) : OrderInv (advanceSeqPc (primEffect Config.params u s)) := by
  obtain ⟨mark, hmark, horder⟩ := h hactive
  have hpc : (advanceSeqPc (primEffect Config.params u s)).seqPc.toNat = s.seqPc.toNat + 1 := by
    simpa using seqPc_succ_toNat hu
  have hcmd : (advanceSeqPc (primEffect Config.params u s)).seqCmd = s.seqCmd := by simp
  have htrace : (advanceSeqPc (primEffect Config.params u s)).trace = s.trace ++ [primAction Config.params u] := by
    rw [advanceSeqPc_trace, primEffect_spec]
  have htake : (seq s.seqCmd).take (s.seqPc.toNat + 1) = (seq s.seqCmd).take s.seqPc.toNat ++ [u] := by
    rw [List.take_add_one, show (seq s.seqCmd)[s.seqPc.toNat]? = some u from hu]
    rfl
  refine fun _ => ⟨mark, ?_, ?_⟩
  · rw [htrace, List.length_append]
    exact Nat.le_add_right_of_le hmark
  · rw [htrace, filter_drop_append_action hmark, horder, hcmd, hpc, htake, List.map_append]
    simp

/-- A pulse may fall anywhere among the handler's actions (R120). -/
theorem orderInv_pwmPeriod {s : State} (h : OrderInv s) : OrderInv (pwmPeriod s) := by
  intro hactive
  obtain ⟨mark, hmark, horder⟩ := h hactive
  refine ⟨mark, ?_, ?_⟩
  · rw [pwmPeriod_eq, List.length_append]
    exact Nat.le_add_right_of_le hmark
  · rw [pwmPeriod_eq, filter_drop_append_action hmark, horder]
    exact List.append_nil _

theorem orderInv_moves (c : Choice) (s t : State) (h : OrderInv s) (hm : Moves c s t) : OrderInv t := by
  cases hm with
  | none | deliver | boot => exact h
  | enter => exact orderInv_isrEnter _ s
  | element hactive hu => exact orderInv_element hactive hu h
  | pwm => exact orderInv_pwmPeriod h
  | exit | rst => exact orderInv_of_idle rfl
  | mainRead hidle | mainWrite hidle => exact orderInv_of_idle hidle

/-- The machine's step places no word; with none placed it is an agent's (log 5). -/
theorem step_agent_of_unplaced {s t : State} (hs : s.env.placed = none) (h : step s = .next t) :
    t.env.placed = none ∧ agentStep (Config.schedule s.env.draws) (takeDraw s) = .next t := by
  rw [step_unplaced hs] at h
  exact ⟨by rw [agentStep_env h]; exact hs, h⟩

/-- Settles O49: every move keeps `OrderInv`, and at the sequence's end the elements already run are all of them. -/
theorem sequenceOrderKept : Obligations.SequenceOrderKept := by
  have hagents : KeptByAgents OrderInv := keptByAgents_of_moves orderInv_moves
  refine ⟨fun s t hs h hst => ?_, hagents, fun s h hactive hend => ?_⟩
  · obtain ⟨hplaced, hstep⟩ := step_agent_of_unplaced hs hst
    exact ⟨hplaced, hagents _ (takeDraw s) t h hstep⟩
  · have hwhole := h hactive
    rwa [hend, List.take_length] at hwhole

/-! ## WAIT (R117) -/

theorem exec_wait (n : Count) (s : State) : exec (.wait n) s = .next (waitTicks n s) := exec_prim (.wait n) s

/-- Settles O19: WAIT is an element, and its effect is its action. -/
theorem waitEffect : Obligations.WaitEffect := by
  intro n s
  rw [exec_wait, waitTicks_eq]

/-! ## The sequence store (R110) -/

theorem seq_opening : seq (some .opening) = [.moveTo 0] ++ blinkSeq 2 1 1 ++ [.wait 50] := rfl

theorem seq_closing : seq (some .closing) = [.moveTo 180] ++ blinkSeq 20 1 1 ++ [.wait 50] := rfl

theorem seq_twitching :
    seq (some .twitching) = [.moveTo 155, .wait 4, .moveTo 179] ++ blinkSeq 5 1 1 := rfl

theorem seq_unrecognized : seq (some .unrecognized) = blinkSeq 100 1 1 ++ [.wait 50] := rfl

/-- A blink is expanded to its cycles (R103). -/
theorem blinkSeq_eq (c on off : Count) :
    blinkSeq c on off = (List.replicate c.toNat [Prim.ledSet true, .wait on, .ledSet false, .wait off]).flatten := rfl

/-- Settles O25: the rule's constants are the literals' values, and a blink has four elements to a cycle. -/
theorem sequenceStoreContents : Obligations.SequenceStoreContents :=
  ⟨seq_none, seq_opening, seq_closing, seq_twitching, seq_unrecognized, blinkSeq_eq, congrArg List.length seq_none,
    seq_opening_length, seq_closing_length, seq_twitching_length, seq_unrecognized_length⟩

/-! ## What a command does (R111 to R114) -/

section dispatch

variable (p : Params) (s : State)

theorem primEffect_moveTo (a : Angle) :
    primEffect p (.moveTo a) s =
      { s with cmdAngle := clampedAngle a, ocr := pulseFor p a, trace := s.trace ++ [.ocrWrite (pulseFor p a)] } := rfl

theorem primEffect_wait (n : Count) : primEffect p (.wait n) s = { s with trace := s.trace ++ [.wait n] } := rfl

/-- A blink of at least one cycle leaves the indicator off, whatever it was. -/
theorem runPrims_blinkSeq_pos {c : Count} (hc : c ≠ 0) (on off : Count) :
    runPrims p (blinkSeq c on off) s = { s with led := false, trace := s.trace ++ cycles c.toNat on off } := by
  rw [runPrims_blinkSeq, if_neg hc]

theorem dispatch_opening :
    dispatch p .opening s =
      { s with
        ocr := pulseFor p 0
        cmdAngle := 0
        led := false
        trace := s.trace ++ ([.ocrWrite (pulseFor p 0)] ++ cycles 2 1 1 ++ [.wait 50]) } := by
  have hangle : clampedAngle 0 = 0 := rfl
  rw [dispatch, seq_opening]
  simp (disch := decide) only [runPrims_append, runPrims_cons, runPrims_nil, primEffect_moveTo, primEffect_wait,
    runPrims_blinkSeq_pos, hangle, List.append_assoc]
  rfl

/-- 180 degrees are past the table's end: the entry and the angle are those of 179 (R80). -/
theorem dispatch_closing :
    dispatch p .closing s =
      { s with
        ocr := pulseFor p 179
        cmdAngle := 179
        led := false
        trace := s.trace ++ ([.ocrWrite (pulseFor p 179)] ++ cycles 20 1 1 ++ [.wait 50]) } := by
  have hangle : clampedAngle 180 = 179 := rfl
  have hpulse : pulseFor p 180 = pulseFor p 179 := pulseFor_saturated p (by decide)
  rw [dispatch, seq_closing]
  simp (disch := decide) only [runPrims_append, runPrims_cons, runPrims_nil, primEffect_moveTo, primEffect_wait,
    runPrims_blinkSeq_pos, hangle, hpulse, List.append_assoc]
  rfl

theorem dispatch_twitching :
    dispatch p .twitching s =
      { s with
        ocr := pulseFor p 179
        cmdAngle := 179
        led := false
        trace := s.trace ++
          ([.ocrWrite (pulseFor p 155), .wait 4, .ocrWrite (pulseFor p 179)] ++ cycles 5 1 1) } := by
  have hangle : clampedAngle 179 = 179 := rfl
  rw [dispatch, seq_twitching]
  simp (disch := decide) only [runPrims_append, runPrims_cons, runPrims_nil, primEffect_moveTo, primEffect_wait,
    runPrims_blinkSeq_pos, hangle, List.append_assoc]
  rfl

theorem dispatch_unrecognized :
    dispatch p .unrecognized s =
      { s with led := false, trace := s.trace ++ (cycles 100 1 1 ++ [.wait 50]) } := by
  rw [dispatch, seq_unrecognized]
  simp (disch := decide) only [runPrims_append, runPrims_cons, runPrims_nil, primEffect_wait, runPrims_blinkSeq_pos,
    List.append_assoc]
  rfl

end dispatch

theorem exec_cmdOpen (s : State) : exec .cmdOpen s = .next (dispatch Config.params .opening s) :=
  exec_command .opening 0 s

theorem exec_cmdClose (s : State) : exec .cmdClose s = .next (dispatch Config.params .closing s) :=
  exec_command .closing 0 s

theorem exec_cmdTwitch (s : State) : exec .cmdTwitch s = .next (dispatch Config.params .twitching s) :=
  exec_command .twitching 0 s

theorem exec_cmdUnrecognized (code : Byte) (s : State) :
    exec (.cmdUnrecognized code) s = .next (dispatch Config.params .unrecognized s) :=
  exec_command .unrecognized code s

/-- Settles O21: OPEN's one MOVE_TO writes the first entry, PULSE_MIN. -/
theorem openEffect : Obligations.OpenEffect := by
  intro s
  refine ⟨_, exec_cmdOpen s, ?_, ?_⟩
  · rw [dispatch_opening]
    exact pulseFor_zero Config.params_legal
  · rw [dispatch_opening]
    rfl

/-- Settles O22: CLOSE's one MOVE_TO is clamped to the last entry, PULSE_MAX. -/
theorem closeEffect : Obligations.CloseEffect := by
  intro s
  refine ⟨_, exec_cmdClose s, ?_, ?_⟩
  · rw [dispatch_closing]
    exact pulseFor_angleMax Config.params_legal
  · rw [dispatch_closing]

/-- Settles O23: TWITCH writes entry 155, which its second MOVE_TO overwrites with the last, PULSE_MAX. -/
theorem twitchEffect : Obligations.TwitchEffect := by
  intro s
  refine ⟨_, exec_cmdTwitch s, ?_, pulseFor Config.params 155, pulseFor_val Config.params_legal 155, ?_⟩
  · rw [dispatch_twitching]
    exact pulseFor_angleMax Config.params_legal
  · rw [dispatch_twitching]

/-- Settles O24: the code is not read, and no element is a MOVE_TO. -/
theorem unrecognizedEffect : Obligations.UnrecognizedEffect := by
  intro code s
  rw [exec_cmdUnrecognized, dispatch_unrecognized]

/-! ## The time a command waits (R121) -/

theorem ticksWaited_append (tr₁ tr₂ : List Action) :
    ticksWaited (tr₁ ++ tr₂) = ticksWaited tr₁ + ticksWaited tr₂ := by
  simp [ticksWaited]

theorem ticksWaited_cycles (n : Nat) (on off : Count) :
    ticksWaited (cycles n on off) = n * (on.toNat + off.toNat) := by
  induction n with
  | zero => simp [cycles, ticksWaited]
  | succ n ih =>
    have hcycle : ticksWaited [.led true, .wait on, .led false, .wait off] = on.toNat + off.toNat := by
      simp [ticksWaited]
    rw [cycles_succ, ticksWaited_append, hcycle, ih, Nat.succ_mul, Nat.add_comm]

/-- Settles O26: a command adds the waits of its cycles, two ticks each, and its gap of 4 or its final wait of 50. -/
theorem sequenceWaitingTimes : Obligations.SequenceWaitingTimes := by
  have hgap (v w : OcrWord) : ticksWaited [.ocrWrite v, .wait 4, .ocrWrite w] = 4 := rfl
  have hmove (v : OcrWord) : ticksWaited [.ocrWrite v] = 0 := rfl
  have hsettle : ticksWaited [.wait 50] = 50 := rfl
  have hcycles (n : Nat) : ticksWaited (cycles n 1 1) = n * 2 := ticksWaited_cycles n 1 1
  refine fun s => ⟨⟨_, exec_cmdOpen s, ?_⟩, ⟨_, exec_cmdClose s, ?_⟩, ⟨_, exec_cmdTwitch s, ?_⟩,
    fun code => ⟨_, exec_cmdUnrecognized code s, ?_⟩⟩
  · rw [dispatch_opening]
    simp only [ticksWaited_append, hmove, hcycles, hsettle]
  · rw [dispatch_closing]
    simp only [ticksWaited_append, hmove, hcycles, hsettle]
  · rw [dispatch_twitching]
    simp only [ticksWaited_append, hgap, hcycles]
  · rw [dispatch_unrecognized]
    simp only [ticksWaited_append, hcycles, hsettle]

/-! ## A command keeps nothing (R119) -/

section dispatchFrame

variable (p : Params) (c : Behaviour) (s : State)

theorem dispatch_trace : (dispatch p c s).trace = s.trace ++ (seq (some c)).map (primAction p) :=
  runPrims_trace p _ s

@[simp] theorem dispatch_seqCmd : (dispatch p c s).seqCmd = s.seqCmd := by
  rw [dispatch, runPrims_spec]

@[simp] theorem dispatch_seqPc : (dispatch p c s).seqPc = s.seqPc := by
  rw [dispatch, runPrims_spec]

end dispatchFrame

/-- Settles O27: the list appended is that of the command's elements. -/
theorem dispatchKeepsNothing : Obligations.DispatchKeepsNothing := by
  intro c
  refine ⟨(seq (some c)).map (primAction Config.params), fun code s => ⟨_, exec_command c code s,
    dispatch_trace _ c s, dispatch_seqCmd _ c s, dispatch_seqPc _ c s, ?_⟩⟩
  rintro rfl
  rw [dispatch_unrecognized]
  exact ⟨rfl, rfl⟩

/-! ## A command is the run of its `ISR_STEP`s (R116, R134) -/

theorem agentStep_isr_element {s : State} {u : Prim} (hactive : s.isrActive = true) (hu : seqFetch s = some u) :
    agentStep .isr s = .next (advanceSeqPc (primEffect Config.params u s)) := by
  simp [agentStep, isrStep, hactive, hu, exec_prim, andThen]

theorem seqFetch_eq_head_of_drop {s : State} {u : Prim} {us : List Prim}
    (h : (seq s.seqCmd).drop s.seqPc.toNat = u :: us) : seqFetch s = some u := by
  rw [seqFetch, ← List.head?_drop, h]
  rfl

theorem setSeqPc_setSeqPc (m n : SeqIndex) (s : State) : setSeqPc m (setSeqPc n s) = setSeqPc m s := rfl

theorem setSeqPc_seqPc_self (s : State) : setSeqPc s.seqPc s = s := rfl

/-- A running handler runs what is left of its sequence, one `ISR_STEP` to an element, and SEQ_PC counts them. -/
theorem runChoices_isr_rest (us : List Prim) {s : State} (hactive : s.isrActive = true)
    (hrest : (seq s.seqCmd).drop s.seqPc.toNat = us) :
    runChoices (List.replicate us.length .isr) s =
      .next (setSeqPc (s.seqPc + BitVec.ofNat 9 us.length) (runPrims Config.params us s)) := by
  induction us generalizing s with
  | nil => simp [runChoices, setSeqPc_seqPc_self]
  | cons u us ih =>
    have hu : seqFetch s = some u := seqFetch_eq_head_of_drop hrest
    have hnext : advanceSeqPc (primEffect Config.params u s) =
        setSeqPc (s.seqPc + 1) (primEffect Config.params u s) := by
      rw [advanceSeqPc, primEffect_seqPc]
    have hrest' : (seq s.seqCmd).drop (s.seqPc + 1).toNat = us := by
      rw [seqPc_succ_toNat hu, ← List.tail_drop, hrest, List.tail_cons]
    have hpc : s.seqPc + 1 + BitVec.ofNat 9 us.length = s.seqPc + BitVec.ofNat 9 (us.length + 1) := by
      rw [Nat.add_comm, BitVec.ofNat_add, BitVec.add_assoc]
      rfl
    rw [List.length_cons, List.replicate_succ, runChoices_cons _ (agentStep_isr_element hactive hu), hnext,
      ih (by simpa using hactive) (by simpa using hrest'), runPrims_setSeqPc, setSeqPc_setSeqPc, setSeqPc_seqPc, hpc,
      runPrims_cons]

/-- Settles O51: with nothing of the command run, what is left of its sequence is all of it. -/
theorem commandEqualsSmallSteps : Obligations.CommandEqualsSmallSteps := by
  intro s c hactive hcmd hpc
  have hrest : (seq s.seqCmd).drop s.seqPc.toNat = seq (some c) := by
    rw [hcmd, hpc]
    rfl
  refine ⟨_, _, runChoices_isr_rest (seq (some c)) hactive hrest, exec_command c s.rxData s, ?_⟩
  rw [hpc, zero_add]
  rfl

end Sys2Proof.Machine

/-! PROOFS. BusReceiver of `44_bus_receiver.md`: the small steps (R131, R132, R134, R135) and REARM (R145), the
transition table of R140 as what `ISR_ENTER` decides (R141, R144), each event as a whole (R136 to R139, R142) and as the
run of its small steps, and the re-arm that every pending event comes to (R142, R143). -/

namespace Sys2Proof.Machine

/-! ## The steps of BUS and ISR (R131, R132, R134, R135) -/

theorem agentStep_bus_deliver {s : State} (e : BusEvent) (h : s.armed = true) :
    agentStep (.bus e) s = .next (evtDeliver e s) :=
  if_pos h

theorem agentStep_bus_unarmed {s : State} (e : BusEvent) (h : s.armed = false) : agentStep (.bus e) s = .next s :=
  agentStep_disabled h

/-- Settles O36: armed, the event is latched; un-armed, the step is not enabled. -/
theorem evtDeliverStep : Obligations.EvtDeliverStep :=
  fun e s => ⟨fun h => by rw [agentStep_bus_deliver e h, evtDeliver_eq], agentStep_bus_unarmed e⟩

theorem agentStep_isr_enter {s : State} (hidle : s.isrActive = false) (hpending : s.evtValid = true) :
    agentStep .isr s = .next (isrEnter Config.params s) := by
  simp [agentStep, isrStep, hidle, hpending]

theorem agentStep_isr_exit {s : State} (hactive : s.isrActive = true) (hend : s.seqPc.toNat = seqLen s) :
    agentStep .isr s = .next (isrExit s) := by
  have hfetch : seqFetch s = none := List.getElem?_eq_none hend.ge
  simp [agentStep, isrStep, hactive, hfetch, hend, exec, execRearm, andThen, isrExit]

/-- Settles O37: each branch of the rule is a way of `isrEnter`; with nothing pending the step is not enabled. -/
theorem isrEnterStep : Obligations.IsrEnterStep := by
  refine fun s hidle => ⟨fun hv hsla => ?_, fun hv hdata hb => ?_, fun hv hnsla hndata => ?_, fun hv => ?_⟩
  · rw [agentStep_isr_enter hidle hv, isrEnter_address (by rw [hsla, classifyEvt_sla])]
  · rw [agentStep_isr_enter hidle hv, isrEnter_dispatch (by rw [hdata, classifyEvt_data Config.params_legal]) hb]
  · obtain ⟨hsla, hdata, -⟩ := statusClassification Config.params Config.params_legal s.evtStatus
    rw [agentStep_isr_enter hidle hv, isrEnter_idle (mt hsla.1 hnsla) fun h hb => hndata ⟨hdata.1 h, hb⟩]
  · exact agentStep_disabled (c := .isr) (by simp [enabled, Choice.agent, hidle, hv])

/-- Settles O34: the two kinds of step are `step`'s two cases, and an element's step is `ISR_STEP`. -/
theorem stepRunsDecodedInstruction : Obligations.StepRunsDecodedInstruction :=
  ⟨fun _ _ h => step_placed h, fun _ h => step_unplaced h,
    fun s u hactive hu => ⟨_, exec_prim u s, agentStep_isr_element hactive hu⟩⟩

/-- Settles O38: below the sequence's end the store answers an element, which leaves SEQ_PC to the stepping; the empty
sequence is at its end. -/
theorem isrStepRunsElement : Obligations.IsrStepRunsElement := by
  refine fun s hactive => ⟨fun h => ?_, fun hcmd hpc => ?_⟩
  · have hu : seqFetch s = some (seq s.seqCmd)[s.seqPc.toNat] := List.getElem?_eq_getElem h
    refine ⟨_, exec_prim _ s, ?_, seqPc_succ_toNat hu⟩
    rw [agentStep_isr_element hactive hu, advanceSeqPc, primEffect_seqPc]
    rfl
  · refine agentStep_isr_exit hactive ?_
    rw [seqLen, hcmd, hpc]
    rfl

theorem primEffect_trace (p : Params) (u : Prim) (s : State) :
    (primEffect p u s).trace = s.trace ++ [primAction p u] := by
  rw [primEffect_spec]

/-- Every move but `ISR_EXIT` and reset leaves the `Rearm`s of TRACE and their count (R135). -/
theorem Moves.rearms_kept {c : Choice} {s t : State} (h : Moves c s t) (hrst : c.agent ≠ .rst)
    (hexit : ¬(c = .isr ∧ s.isrActive = true ∧ s.seqPc.toNat = (seq s.seqCmd).length)) :
    t.trace.count .rearm = s.trace.count .rearm ∧ t.rearmCount = s.rearmCount := by
  cases h with
  | none | deliver | mainRead | boot => exact ⟨rfl, rfl⟩
  | enter => rw [isrEnter_spec]; exact ⟨rfl, rfl⟩
  | element => simp [primEffect_trace, primAction_ne_rearm]
  | exit hactive hend => exact absurd ⟨rfl, hactive, hend⟩ hexit
  | mainWrite | pwm => simp [mainTglWrite_eq, pwmPeriod_eq]
  | rst => exact absurd rfl hrst

/-- Settles O39: at the sequence's end the step is the re-arm and the return; no other move emits `Rearm`. -/
theorem isrExitStep : Obligations.IsrExitStep :=
  ⟨fun s hactive hend => by rw [agentStep_isr_exit hactive hend, isrExit_eq],
    fun _ _ _ h hrst hexit => (moves_of_agentStep h).rearms_kept hrst hexit⟩

/-! ## REARM (R145) -/

theorem exec_rearm (s : State) : exec .rearm s = .next (rearmOp s) := rfl

theorem rearmOp_eq (s : State) :
    rearmOp s = { s with armed := true, ackEn := true, evtValid := false, trace := s.trace ++ [.rearm] } := rfl

/-- Settles O20: REARM is the handshake's three bits and its action, and not the return that counts it. -/
theorem rearmEffect : Obligations.RearmEffect := by
  intro s
  rw [exec_rearm, rearmOp_eq]

/-! ## `ISR_ENTER` decides by the table (R132, R140) -/

theorem brxTable_slaAck (b : BrxState) : brxTable b .slaAck = (.addressMatched, false) := by
  cases b <;> rfl

theorem brxTable_dispatch : brxTable .addressMatched .dataAck = (.dataReceived, true) := rfl

/-- The table's other cells: back to Idle, with nothing dispatched (R138, R139). -/
theorem brxTable_idle {b : BrxState} {c : EvtClass} (h1 : c ≠ .slaAck) (h2 : c = .dataAck → b ≠ .addressMatched) :
    brxTable b c = (.idle, false) := by
  cases c with
  | slaAck => exact absurd rfl h1
  | other => cases b <;> rfl
  | dataAck =>
    cases b with
    | addressMatched => exact absurd rfl (h2 rfl)
    | idle | dataReceived => rfl

/-- `ISR_ENTER` is the table's cell for BRX_STATE and the latched event: the three ways of R132 in one. -/
theorem isrEnter_eq_table (p : Params) (s : State) :
    isrEnter p s =
      { s with
        isrActive := true
        eventCount := s.eventCount + 1
        brxState := (brxTable s.brxState (classifyEvt p s.evtStatus)).1
        rxData := if (brxTable s.brxState (classifyEvt p s.evtStatus)).2 then s.evtData else s.rxData
        seqCmd := dispatched p s.brxState ⟨s.evtStatus, s.evtData⟩
        seqPc := 0 } := by
  obtain h | ⟨h, hb⟩ | ⟨h, hb⟩ := isrEnter_cases p s
  · simp [isrEnter_address h, dispatched, h, brxTable_slaAck]
  · simp [isrEnter_dispatch h hb, dispatched, h, hb, brxTable_dispatch]
  · simp [isrEnter_idle h hb, dispatched, brxTable_idle h hb]

/-! ## `Idle` and `DataReceived` are alike (R141) -/

/-- What `f` leaves of a state, seen through `π`, is what it leaves of the state that `π` shows. -/
def SeesOnly (π : State → State) (f : State → Host.Outcome State Fault Refusal) : Prop :=
  ∀ s, andThen (f (π s)) π = andThen (f s) π

theorem SeesOnly.ite {π : State → State} {b : State → Bool} {f g : State → Host.Outcome State Fault Refusal}
    (hb : ∀ s, b (π s) = b s) (hf : SeesOnly π f) (hg : SeesOnly π g) :
    SeesOnly π fun s => if b s then f s else g s := by
  intro s
  simp only [hb]
  split
  · exact hf s
  · exact hg s

/-- States that `π` shows alike are led to states that it shows alike. -/
theorem SeesOnly.alike {π : State → State} {f : State → Host.Outcome State Fault Refusal} (hf : SeesOnly π f)
    {s₁ s₂ t₁ : State} (hs : π s₁ = π s₂) (h : f s₁ = .next t₁) : ∃ t₂, f s₂ = .next t₂ ∧ π t₁ = π t₂ := by
  have hboth : andThen (f s₂) π = .next (π t₁) := by
    rw [← hf s₂, ← hs, hf s₁, h, andThen]
  obtain ⟨t₂, h₂, ht⟩ := of_andThen_eq_next hboth
  exact ⟨t₂, h₂, ht.symm⟩

theorem merged_merged (b : BrxState) : b.merged.merged = b.merged := by
  cases b <;> rfl

theorem mergeIdle_mergeIdle (s : State) : s.mergeIdle.mergeIdle = s.mergeIdle := by
  simp only [State.mergeIdle, merged_merged]

/-- The rows of `Idle` and `DataReceived` are the same row (R141). -/
theorem brxTable_merged (b : BrxState) (c : EvtClass) : brxTable b.merged c = brxTable b c := by
  cases b <;> cases c <;> rfl

/-- `ISR_ENTER` forgets in which of the two the receiver was. -/
theorem isrEnter_mergeIdle (p : Params) (s : State) : isrEnter p s.mergeIdle = isrEnter p s := by
  rw [isrEnter_eq_table p s.mergeIdle, isrEnter_eq_table p s]
  simp only [State.mergeIdle, dispatched, brxTable_merged]

/-- An operation that neither reads nor writes BRX_STATE. -/
theorem seesOnly_of_commutes {f : State → State} (h : ∀ s, f s.mergeIdle = (f s).mergeIdle) :
    SeesOnly State.mergeIdle fun s => .next (f s) := fun s => by
  simp only [andThen, h, mergeIdle_mergeIdle]

/-- An operation after which BRX_STATE no longer matters. -/
theorem seesOnly_of_forgets {f : State → State} (h : ∀ s, f s.mergeIdle = f s) :
    SeesOnly State.mergeIdle fun s => .next (f s) := fun s => by
  simp only [h]

theorem primEffect_mergeIdle (p : Params) (u : Prim) (s : State) :
    primEffect p u s.mergeIdle = (primEffect p u s).mergeIdle := by
  cases u <;> rfl

theorem runPrims_mergeIdle (p : Params) (us : List Prim) (s : State) :
    runPrims p us s.mergeIdle = (runPrims p us s).mergeIdle := by
  induction us generalizing s with
  | nil => rfl
  | cons u us ih => simp only [runPrims_cons, primEffect_mergeIdle, ih]

theorem handleEvent_seesOnlyMerged (p : Params) (e : BusEvent) :
    SeesOnly State.mergeIdle fun s => .next (handleEvent p e s) := by
  intro s
  have hcan : canHandle s.mergeIdle = canHandle s := rfl
  have hdeliver : evtDeliver e s.mergeIdle = (evtDeliver e s).mergeIdle := rfl
  simp only [handleEvent, hcan, hdeliver, isrEnter_mergeIdle]
  split
  · rfl
  · simp only [andThen, mergeIdle_mergeIdle]

theorem exec_decodeInput_seesOnlyMerged (w : InputWord) : SeesOnly State.mergeIdle (exec (decodeInput w)) := by
  intro s
  cases w with
  | command code =>
    simp only [decodeInput, decodeCommand, exec_command]
    exact seesOnly_of_commutes (runPrims_mergeIdle _ _) s
  | event e =>
    simp only [decodeInput, exec_decodeEvent]
    exact handleEvent_seesOnlyMerged _ e s

/-- The sequencer stands at the same element of the same sequence. -/
theorem isrStep_seesOnlyMerged : SeesOnly State.mergeIdle isrStep := by
  refine .ite (fun _ => rfl) ?_
    (.ite (fun _ => rfl) (seesOnly_of_forgets (isrEnter_mergeIdle _)) (seesOnly_of_commutes fun _ => rfl))
  intro s
  have hfetch : seqFetch s.mergeIdle = seqFetch s := rfl
  have hpc : s.mergeIdle.seqPc = s.seqPc := rfl
  have hlen : seqLen s.mergeIdle = seqLen s := rfl
  simp only [hfetch, hpc, hlen]
  split
  next u _ =>
    have helement (s : State) : advanceSeqPc (primEffect Config.params u s.mergeIdle) =
        (advanceSeqPc (primEffect Config.params u s)).mergeIdle := by
      rw [primEffect_mergeIdle]
      rfl
    simp only [exec_prim]
    exact seesOnly_of_commutes (f := fun s => advanceSeqPc (primEffect Config.params u s)) helement s
  · split
    · exact seesOnly_of_commutes (f := isrExit) (fun _ => rfl) s
    · exact seesOnly_of_commutes (f := id) (fun _ => rfl) s

theorem agentStep_seesOnlyMerged (c : Choice) : SeesOnly State.mergeIdle (agentStep c) := by
  cases c with
  | bus e => exact .ite (fun _ => rfl) (seesOnly_of_commutes fun _ => rfl) (seesOnly_of_commutes fun _ => rfl)
  | isr => exact isrStep_seesOnlyMerged
  | main =>
    exact .ite (fun _ => rfl) (seesOnly_of_commutes fun _ => rfl)
      (.ite (fun _ => rfl) (seesOnly_of_commutes fun _ => rfl) (seesOnly_of_commutes fun _ => rfl))
  | pwm => exact seesOnly_of_commutes fun _ => rfl
  | boot => exact .ite (fun _ => rfl) (seesOnly_of_commutes fun _ => rfl) (seesOnly_of_commutes fun _ => rfl)
  | rst d => exact seesOnly_of_forgets fun _ => rfl

theorem step_seesOnlyMerged : SeesOnly State.mergeIdle step := by
  intro s
  have henv : s.mergeIdle.env = s.env := rfl
  cases hp : s.env.placed with
  | none =>
    rw [step_unplaced hp, step_unplaced (s := s.mergeIdle) hp, henv]
    exact agentStep_seesOnlyMerged _ (takeDraw s)
  | some w =>
    rw [step_placed hp, step_placed (s := s.mergeIdle) hp]
    exact exec_decodeInput_seesOnlyMerged w (setPlaced none s)

/-- Settles O54: each operation commutes with the merging but `ISR_ENTER` and reset, and these leave nothing of what it
merges. -/
theorem idleAndDataReceivedAlike : Obligations.IdleAndDataReceivedAlike := by
  intro s₁ s₂ hs
  exact ⟨fun c _ => (agentStep_seesOnlyMerged c).alike hs, fun _ => step_seesOnlyMerged.alike hs⟩

/-! ## The decision does not see the outputs (R144) -/

/-- Settles O59: the table reads BRX_STATE and the latch, and `ISR_ENTER` leaves TRACE alone. -/
theorem handlerDecisionIgnoresOutputs : Obligations.HandlerDecisionIgnoresOutputs := by
  intro s o hidle hpending
  refine ⟨_, _, agentStep_isr_enter hidle hpending, agentStep_isr_enter (s := s.withOutputs o) hidle hpending,
    isrEnter_isrActive _ _, ?_⟩
  rw [isrEnter_eq_table _ (s.withOutputs o), isrEnter_eq_table _ s]
  exact ⟨rfl, rfl, rfl, rfl, rfl, rfl⟩

/-! ## An event as a whole (R136 to R140) -/

theorem isrEnter_seqCmd_evtDeliver (p : Params) (e : BusEvent) (s : State) :
    (isrEnter p (evtDeliver e s)).seqCmd = dispatched p s.brxState e := by
  rw [isrEnter_eq_table]
  rfl

/-- What an event leaves: the table's cell for it, the dispatched sequence's writes if there is one, and the re-arm. -/
theorem handleEvent_eq {p : Params} {e : BusEvent} {s : State} (h : canHandle s = true) :
    handleEvent p e s =
      { s with
        brxState := (brxTable s.brxState (classifyEvt p e.status)).1
        rxData := if (brxTable s.brxState (classifyEvt p e.status)).2 then e.data else s.rxData
        evtStatus := e.status
        evtData := e.data
        armed := true
        ackEn := true
        evtValid := false
        isrActive := false
        seqCmd := none
        seqPc := 0
        ocr := (runPrims p (seq (dispatched p s.brxState e)) s).ocr
        cmdAngle := (runPrims p (seq (dispatched p s.brxState e)) s).cmdAngle
        led := (runPrims p (seq (dispatched p s.brxState e)) s).led
        eventCount := s.eventCount + 1
        rearmCount := s.rearmCount + 1
        trace := (runPrims p (seq (dispatched p s.brxState e)) s).trace ++ [.rearm] } := by
  have hsame : (isrEnter p (evtDeliver e s)).ocr = s.ocr ∧ (isrEnter p (evtDeliver e s)).led = s.led ∧
      (isrEnter p (evtDeliver e s)).cmdAngle = s.cmdAngle := by
    rw [isrEnter_spec]
    exact ⟨rfl, rfl, rfl⟩
  obtain ⟨hocr, hled, hangle⟩ := runPrims_congr p (seq (dispatched p s.brxState e)) hsame
  rw [handleEvent, if_pos h, isrExit_eq, runSequence_spec, isrEnter_seqCmd_evtDeliver, hocr, hled, hangle,
    isrEnter_eq_table, runPrims_trace]
  rfl

/-- An event that dispatches nothing moves BRX_STATE, is latched and counted, and is re-armed. -/
theorem handleEvent_quiet {p : Params} {e : BusEvent} {s : State} {b : BrxState} (h : canHandle s = true)
    (hcell : brxTable s.brxState (classifyEvt p e.status) = (b, false)) :
    handleEvent p e s =
      { s with
        brxState := b
        evtStatus := e.status
        evtData := e.data
        armed := true
        ackEn := true
        evtValid := false
        isrActive := false
        seqCmd := none
        seqPc := 0
        eventCount := s.eventCount + 1
        rearmCount := s.rearmCount + 1
        trace := s.trace ++ [.rearm] } := by
  rw [handleEvent_eq h, dispatched, hcell]
  rfl

/-- An event that cannot be delivered is held by the peripheral (R131, D7). -/
theorem handleEvent_held {p : Params} (e : BusEvent) {s : State} (h : s.armed = false ∨ s.isrActive = true) :
    handleEvent p e s = s := by
  have hcan : ¬canHandle s = true := by
    rw [canHandle_iff]
    rintro ⟨harmed, hidle⟩
    simp [harmed, hidle] at h
  rw [handleEvent, if_neg hcan]

theorem exec_evtSlaAck (data : Byte) (s : State) :
    exec (.evtSlaAck data) s = .next (handleEvent Config.params ⟨Config.params.scSlaAck, data⟩ s) := rfl

theorem exec_evtDataAck (data : Byte) (s : State) :
    exec (.evtDataAck data) s = .next (handleEvent Config.params ⟨Config.params.scDataAck, data⟩ s) := rfl

theorem exec_evtOther (status data : Byte) (s : State) :
    exec (.evtOther status data) s = .next (handleEvent Config.params ⟨status, data⟩ s) := rfl

/-- Settles O28: the table's column for a matched address is `AddressMatched`, with no dispatch, in every row. -/
theorem evtSlaAckEffect : Obligations.EvtSlaAckEffect := by
  intro data s harmed hidle
  have hcell : brxTable s.brxState (classifyEvt Config.params Config.params.scSlaAck) = (.addressMatched, false) := by
    rw [classifyEvt_sla, brxTable_slaAck]
  rw [exec_evtSlaAck, handleEvent_quiet ((canHandle_iff s).2 ⟨harmed, hidle⟩) hcell]

/-- Settles O29: the one cell that dispatches leaves what its command writes; the two other rows of its column are
quiet. -/
theorem evtDataAckEffect : Obligations.EvtDataAckEffect := by
  intro d s harmed hidle
  have hcan : canHandle s = true := (canHandle_iff s).2 ⟨harmed, hidle⟩
  have hdata := classifyEvt_data Config.params_legal
  refine ⟨fun hb => ⟨_, exec_command _ d s, ?_⟩, fun hb => ?_⟩
  · rw [exec_evtDataAck, handleEvent_eq hcan, dispatched, hdata, hb, brxTable_dispatch]
    rfl
  · have hcell : brxTable s.brxState (classifyEvt Config.params Config.params.scDataAck) = (.idle, false) :=
      brxTable_idle (by simp [hdata]) fun _ => hb
    rw [exec_evtDataAck, handleEvent_quiet hcan hcell]

/-- Settles O30: the table's column for every other status is `Idle`, with no dispatch, in every row. -/
theorem evtOtherEffect : Obligations.EvtOtherEffect := by
  intro status data s hsla hdata harmed hidle
  have hother := classifyEvt_other hsla hdata
  have hcell : brxTable s.brxState (classifyEvt Config.params status) = (.idle, false) :=
    brxTable_idle (by simp [hother]) (by simp [hother])
  rw [exec_evtOther, handleEvent_quiet ((canHandle_iff s).2 ⟨harmed, hidle⟩) hcell]

/-- Settles O31: a delivery needs ARMED and no running handler, the step of BUS needs ARMED. -/
theorem eventHeldWhileUnready : Obligations.EventHeldWhileUnready := by
  intro status data s h
  refine ⟨?_, agentStep_bus_unarmed ⟨status, data⟩⟩
  rw [exec_decodeEvent ⟨status, data⟩ s, handleEvent_held _ h]

/-- The actions of what an event dispatches, those of a sequence or none. -/
theorem map_seq_dispatched (p : Params) (b : BrxState) (e : BusEvent) :
    (seq (dispatched p b e)).map (primAction p) =
      if (brxTable b (classifyEvt p e.status)).2 then (seq (some (decodeCmd e.data))).map (primAction p) else [] := by
  unfold dispatched
  split <;> rfl

theorem handleEvent_trace {p : Params} {e : BusEvent} {s : State} (h : canHandle s = true) :
    (handleEvent p e s).trace =
      s.trace ++ ((seq (dispatched p s.brxState e)).map (primAction p) ++ [.rearm]) := by
  rw [handleEvent_eq h, runPrims_trace, List.append_assoc]

/-- Settles O32: the handler is the table's cell, and TRACE gains what that cell dispatches, then the `Rearm`. -/
theorem transitionTable : Obligations.TransitionTable := by
  intro e s harmed hidle
  have hcan : canHandle s = true := (canHandle_iff s).2 ⟨harmed, hidle⟩
  refine ⟨_, exec_decodeEvent e s, ?_, ?_, ?_⟩
  · rw [handleEvent_eq hcan]
  · rw [handleEvent_eq hcan]
  · rw [handleEvent_trace hcan, map_seq_dispatched]

/-- A booted block with nothing pending can take an event (R32 (a), (b)). -/
theorem HandshakeInv.canHandle_of_quiet {s : State} (h : HandshakeInv s) (hack : s.ackEn = true)
    (hv : s.evtValid = false) : canHandle s = true := by
  have hactive : s.isrActive ≠ true := fun hactive => Bool.noConfusion (hv.symm.trans (h.activePending hactive))
  exact (canHandle_iff s).2 ⟨(h.armedIff hack).2 hv, by simpa using hactive⟩

theorem HandshakeInv.counts_idle {s : State} (h : HandshakeInv s) (hidle : s.isrActive = false) :
    s.rearmCount = s.eventCount := by
  simpa [hidle] using h.counts.symm

/-- Settles O33: no element of a sequence is a `Rearm`, and the handler keeps R32, whose (e) equates the counts once it
has returned. -/
theorem everyEventRearmsOnce : Obligations.EveryEventRearmsOnce := by
  intro e s hinv hack hv
  have hcan : canHandle s = true := hinv.canHandle_of_quiet hack hv
  have hbits := handleEvent_eq (p := Config.params) (e := e) hcan
  have hidle : (handleEvent Config.params e s).isrActive = false := by rw [hbits]
  have hnone : Action.rearm ∉ (seq (dispatched Config.params s.brxState e)).map (primAction Config.params) := by
    simp [primAction_ne_rearm]
  refine ⟨_, _, exec_decodeEvent e s, handleEvent_trace hcan, hnone, hidle, ?_, ?_, ?_,
    (handshakeInv_handleEvent e s hinv).counts_idle hidle, ?_⟩ <;> rw [hbits]

/-! ## A handler is the run of its small steps (R134, R135) -/

/-- The 9 bits of SEQ_PC hold the end of every sequence (R18). -/
theorem toNat_ofNat_seqLen (s : State) : (BitVec.ofNat 9 (seqLen s)).toNat = seqLen s := by
  have hlen : seqLen s ≤ 401 := seq_length_le s.seqCmd
  rw [BitVec.toNat_ofNat]
  omega

/-- A running handler, stepped to its end: what is left of its sequence, then `ISR_EXIT`. -/
theorem runChoices_isr_to_exit {s : State} (hactive : s.isrActive = true) (hpc : s.seqPc.toNat ≤ seqLen s) :
    runChoices (List.replicate (seqLen s - s.seqPc.toNat + 1) .isr) s =
      .next (isrExit (setSeqPc (BitVec.ofNat 9 (seqLen s))
        (runPrims Config.params ((seq s.seqCmd).drop s.seqPc.toNat) s))) := by
  have hrest := runChoices_isr_rest _ hactive rfl
  have hlength : ((seq s.seqCmd).drop s.seqPc.toNat).length = seqLen s - s.seqPc.toNat := List.length_drop
  have hend : s.seqPc + BitVec.ofNat 9 (seqLen s - s.seqPc.toNat) = BitVec.ofNat 9 (seqLen s) := by
    have hlen := toNat_ofNat_seqLen s
    bv_omega
  rw [hlength, hend] at hrest
  rw [List.replicate_succ', runChoices_append _ _ hrest]
  refine runChoices_cons [] (agentStep_isr_exit (by simpa using hactive) ?_)
  rw [setSeqPc_seqPc, toNat_ofNat_seqLen]
  exact (seqLen_runPrims _ _ s).symm

/-- A handler with nothing of its sequence run yet, stepped to its end. -/
theorem runChoices_isr_from_start {s : State} (hactive : s.isrActive = true) (hpc : s.seqPc = 0) :
    runChoices (List.replicate (seqLen s + 1) .isr) s = .next (isrExit (runSequence Config.params s)) := by
  have hrun := runChoices_isr_to_exit hactive (by simp [hpc])
  simpa [hpc, runSequence] using hrun

/-- Settles O50: `EVT_DELIVER` and `ISR_ENTER` leave the whole of the dispatched sequence to the steps that follow. -/
theorem eventEqualsSmallSteps : Obligations.EventEqualsSmallSteps := by
  intro s e harmed hidle
  have hstart : (isrEnter Config.params (evtDeliver e s)).seqPc = 0 := by rw [isrEnter_spec]
  have hlen : seqLen (isrEnter Config.params (evtDeliver e s)) =
      (seq (dispatched Config.params s.brxState e)).length := by
    rw [seqLen, isrEnter_seqCmd_evtDeliver]
  refine ⟨_, ?_, exec_decodeEvent e s⟩
  rw [runChoices_cons _ (agentStep_bus_deliver e harmed), List.replicate_succ,
    runChoices_cons _ (agentStep_isr_enter (s := evtDeliver e s) hidle rfl), ← hlen,
    runChoices_isr_from_start (isrEnter_isrActive _ _) hstart, handleEvent,
    if_pos ((canHandle_iff s).2 ⟨harmed, hidle⟩)]

/-! ## Every pending event is re-armed (R142, R143) -/

/-- The `ISR` steps from a pending event to the end of its handler, `ISR_ENTER` counted as more than any handler that
runs has left. -/
def stepsLeft (s : State) : Nat := if s.isrActive then seqLen s - s.seqPc.toNat + 1 else 403

theorem stepsLeft_active {s : State} (h : s.isrActive = true) : stepsLeft s = seqLen s - s.seqPc.toNat + 1 :=
  if_pos h

theorem stepsLeft_idle {s : State} (h : s.isrActive = false) : stepsLeft s = 403 := by
  simp [stepsLeft, h]

/-- A step of another agent takes nothing from a handler, unless it is a reset and takes the event. -/
theorem Moves.stepsLeft_kept {c : Choice} {s t : State} (h : Moves c s t) (hc : c ≠ .isr) (hv : t.evtValid = true) :
    stepsLeft t = stepsLeft s := by
  cases h with
  | none | deliver | mainRead | mainWrite | pwm | boot => rfl
  | enter | element | exit => exact absurd rfl hc
  | rst => cases hv

/-- While an event is pending a step of ISR brings its handler nearer to the end, or is its end. -/
theorem stepsLeft_lt_of_isr {s t : State} (hinv : HandshakeInv s) (hs : s.evtValid = true)
    (h : agentStep .isr s = .next t) (ht : t.evtValid = true) : stepsLeft t < stepsLeft s := by
  have hlen : seqLen s ≤ 401 := seq_length_le s.seqCmd
  cases hactive : s.isrActive with
  | false =>
    obtain rfl := Host.Outcome.next.inj ((agentStep_isr_enter hactive hs).symm.trans h)
    have hlen' : seqLen (isrEnter Config.params s) ≤ 401 := seq_length_le _
    rw [stepsLeft_idle hactive, stepsLeft_active (isrEnter_isrActive _ s)]
    omega
  | true =>
    rcases hinv.inSequence.lt_or_eq with hlt | hend
    · have hu : seqFetch s = some (seq s.seqCmd)[s.seqPc.toNat] := List.getElem?_eq_getElem hlt
      obtain rfl := Host.Outcome.next.inj ((agentStep_isr_element hactive hu).symm.trans h)
      have hlen' : seqLen (advanceSeqPc (primEffect Config.params (seq s.seqCmd)[s.seqPc.toNat] s)) = seqLen s := by
        simp [seqLen]
      rw [stepsLeft_active hactive, stepsLeft_active (by simpa using hactive), hlen', advanceSeqPc_seqPc,
        primEffect_seqPc, seqPc_succ_toNat hu]
      omega
    · obtain rfl := Host.Outcome.next.inj ((agentStep_isr_exit hactive hend).symm.trans h)
      cases ht

theorem eq_isr_of_agent {c : Choice} (h : c.agent = .isr) : c = .isr := by
  cases c with
  | isr => rfl
  | bus | main | pwm | boot | rst => cases h

/-- ISR has a step while an event is pending (R132, R134, R135). -/
theorem enabled_isr_of_pending {s : State} (hinv : HandshakeInv s) (hv : s.evtValid = true) :
    enabled .isr s = true := by
  have hpc : s.seqPc.toNat ≤ seqLen s := hinv.inSequence
  cases hactive : s.isrActive with
  | true => simpa [enabled, hactive] using hpc
  | false => simpa [enabled, hactive] using hv

section fairRun

variable {choose : Nat → Choice} {run : Nat → State}

theorem handshakeInv_run (hrun : Interleaving choose run) (h0 : HandshakeInv (run 0)) (m : Nat) :
    HandshakeInv (run m) := by
  induction m with
  | zero => exact h0
  | succ m ih => exact handshakeInv_moves _ _ _ ih (moves_of_agentStep (hrun m))

variable (hrun : Interleaving choose run) (hinv : ∀ m, HandshakeInv (run m))
include hrun hinv

theorem stepsLeft_succ_le {m : Nat} (hm : (run m).evtValid = true) (hm' : (run (m + 1)).evtValid = true) :
    stepsLeft (run (m + 1)) ≤ stepsLeft (run m) := by
  by_cases hc : choose m = .isr
  · have hstep := hrun m
    rw [hc] at hstep
    exact (stepsLeft_lt_of_isr (hinv m) hm hstep hm').le
  · exact ((moves_of_agentStep (hrun m)).stepsLeft_kept hc hm').le

theorem stepsLeft_le_of_pending {n m : Nat} (hnm : n ≤ m) (h : ∀ k, n ≤ k → (run k).evtValid = true) :
    stepsLeft (run m) ≤ stepsLeft (run n) := by
  induction m, hnm using Nat.le_induction with
  | base => exact le_rfl
  | succ m hm ih => exact (stepsLeft_succ_le hrun hinv (h m hm) (h (m + 1) (Nat.le_succ_of_le hm))).trans ih

/-- In a fair run no event stays pending: while it did, ISR would stay enabled and be scheduled, and each of its steps
would leave fewer. -/
theorem exists_not_pending (hfair : WeaklyFair choose run) (n : Nat) : ∃ m, n ≤ m ∧ (run m).evtValid = false := by
  induction hk : stepsLeft (run n) using Nat.strong_induction_on generalizing n with
  | _ k ih =>
    by_contra hnone
    have hpending (m : Nat) (hm : n ≤ m) : (run m).evtValid = true := by
      by_contra hv
      exact hnone ⟨m, hm, by simpa using hv⟩
    obtain ⟨m, hm, hagent⟩ := hfair .isr (by decide) n fun m hm => enabled_isr_of_pending (hinv m) (hpending m hm)
    have hstep := hrun m
    rw [eq_isr_of_agent hagent] at hstep
    have hm' : n ≤ m + 1 := Nat.le_succ_of_le hm
    have hlt : stepsLeft (run (m + 1)) < k := by
      calc stepsLeft (run (m + 1)) < stepsLeft (run m) :=
            stepsLeft_lt_of_isr (hinv m) (hpending m hm) hstep (hpending (m + 1) hm')
        _ ≤ stepsLeft (run n) := stepsLeft_le_of_pending hrun hinv hm hpending
        _ = k := hk
    obtain ⟨l, hl, hv⟩ := ih _ hlt (m + 1) rfl
    exact hnone ⟨l, hm'.trans hl, hv⟩

end fairRun

@[simp] theorem runPrims_eventCount (p : Params) (us : List Prim) (s : State) :
    (runPrims p us s).eventCount = s.eventCount := by
  rw [runPrims_spec]

@[simp] theorem runPrims_rearmCount (p : Params) (us : List Prim) (s : State) :
    (runPrims p us s).rearmCount = s.rearmCount := by
  rw [runPrims_spec]

/-- Settles O52: the elements left are at most 401, and their end is the exit; in a fair run the number of steps left to
the exit of a pending event's handler cannot fall for ever. -/
theorem handlerAlwaysReachesRearm : Obligations.HandlerAlwaysReachesRearm := by
  constructor
  · rintro s n hinv hactive rfl
    have hlen := seq_length_le s.seqCmd
    have hcounts : s.eventCount = s.rearmCount + 1 := by simpa [hactive] using hinv.counts
    refine ⟨_, runChoices_isr_to_exit hactive hinv.inSequence, by omega, rfl, rfl, rfl, rfl, ?_, ?_⟩
    · simp [isrExit_eq]
    · simp [isrExit_eq, hcounts]
  · intro choose run hrun hfair h0 n _
    have hinv := handshakeInv_run hrun h0
    obtain ⟨m, hm, hv⟩ := exists_not_pending hrun hinv hfair n
    exact ⟨m, hm, hv, fun hack => ((hinv m).armedIff hack).2 hv⟩

end Sys2Proof.Machine

/-! PROOFS. The exceptions of `60_exceptions.md`: there is no fault and no stop (R150, R155), and MAIN as a context
(R161, R162). -/

namespace Sys2Proof.Machine

/-! ## No step stops (R150) -/

/-- The machine's step is the word's `exec` or an agent's step, and both answer a next state. -/
theorem stepsOn (s : State) : StepsOn s := by
  obtain ⟨t, ht, -⟩ := step_cases s
  exact ⟨t, ht⟩

/-- Settles O44: each agent's step is one of `Moves`, enabled or not, and no instruction has a failing case. -/
theorem everyStepGoesOn : Obligations.EveryStepGoesOn := by
  refine ⟨stepsOn, fun c s => ?_, exec_next⟩
  obtain ⟨t, ht, -⟩ := agentStep_moves c s
  exact ⟨t, ht⟩

/-! ## The main context (R161, R162) -/

/-- MAIN moves by `MAIN_TGL_READ` and `MAIN_TGL_WRITE` alone, and neither writes beyond LED, its own two bits and
TRACE. -/
theorem Moves.main_frame {s t : State} (h : Moves .main s t) :
    t = { s with led := t.led, tglTmp := t.tglTmp, tglPending := t.tglPending, trace := t.trace } := by
  cases h with
  | none => rfl
  | mainRead => rw [mainTglRead_eq]
  | mainWrite => rw [mainTglWrite_eq]

/-- Both of MAIN's moves require that no handler runs (R161). -/
theorem Moves.main_held {s t : State} (h : Moves .main s t) (hactive : s.isrActive = true) : t = s := by
  cases h with
  | none => rfl
  | mainRead hidle | mainWrite hidle => exact Bool.noConfusion (hidle.symm.trans hactive)

/-- Settles O55: the frame and the hold are those of MAIN's two moves. -/
theorem mainContextFrame : Obligations.MainContextFrame := by
  intro s
  obtain ⟨t, ht, hm⟩ := agentStep_moves .main s
  exact ⟨t, ht, hm.main_frame, hm.main_held⟩

end Sys2Proof.Machine

/-! PROOFS. Reset and boot of `70_reset_and_hazards.md`: what reset leaves, the inert block before boot (R180 to R182,
R184), and the launch state (R185, R190). -/

namespace Sys2Proof.Machine

/-! ## Reset, and the block before boot (R180 to R182, R184) -/

/-- Reset is enabled in every state. -/
theorem agentStep_rst (d : ResetDraws) (s : State) : agentStep (.rst d) s = .next (State.resetWith d s.env) := rfl

/-- Before boot nothing is armed, pending or running, so neither `require` of BUS and ISR is met (R182). -/
theorem HandshakeInv.disabled_before_boot {s : State} (h : HandshakeInv s) (hack : s.ackEn = false) {a : Agent}
    (ha : a = .bus ∨ a = .isr) : enabled a s = false := by
  obtain ⟨harmed, hvalid, hidle⟩ := h.inert hack
  obtain rfl | rfl := ha
  · exact harmed
  · simpa [enabled, hidle] using hvalid

theorem agentStep_before_boot {s : State} (h : HandshakeInv s) (hack : s.ackEn = false) {c : Choice}
    (hc : c.agent = .bus ∨ c.agent = .isr) : agentStep c s = .next s :=
  agentStep_disabled (h.disabled_before_boot hack hc)

/-- Beside boot only `ISR_EXIT` sets ACK_EN, and with no handler running it is not enabled (R21, R135). -/
theorem Moves.ackEn_clear {c : Choice} {s t : State} (h : Moves c s t) (hc : c.agent ≠ .boot)
    (hidle : s.isrActive = false) (hack : s.ackEn = false) : t.ackEn = false := by
  cases h with
  | none | deliver | mainRead | mainWrite | pwm => exact hack
  | enter => rwa [isrEnter_ackEn]
  | element hactive | exit hactive => exact Bool.noConfusion (hidle.symm.trans hactive)
  | boot => exact absurd rfl hc
  | rst => rfl

/-- Settles O42: reset meets the handshake invariant with ACK_EN = 0, under which BUS and ISR are disabled and every
move but boot's keeps ACK_EN clear; the invariant of the state it leads to says the rest. -/
theorem resetLeavesQuiescentState : Obligations.ResetLeavesQuiescentState := by
  refine ⟨fun d s => ?_, ⟨_, _, rfl⟩, fun d e _ => ?_, fun s c hinv hack => ⟨?_, fun hc => ?_⟩⟩
  · exact ⟨_, agentStep_rst d s, rfl, rfl, rfl, rfl, rfl, rfl, rfl, rfl, rfl, rfl, rfl, rfl⟩
  · exact agentStep_before_boot (handshakeInv_resetWith d e) rfl
  · exact agentStep_before_boot hinv hack
  · obtain ⟨-, -, hidle⟩ := hinv.inert hack
    obtain ⟨t, ht, hm⟩ := agentStep_moves c s
    have hack' : t.ackEn = false := hm.ackEn_clear hc hidle hack
    exact ⟨t, ht, hack', (handshakeInv_moves c s t hinv hm).inert hack'⟩

/-! ## Boot and the launch state (R185, R190) -/

/-- Boot is enabled while ACK_EN is 0 (log 10). -/
theorem agentStep_boot {s : State} (hack : s.ackEn = false) : agentStep .boot s = .next (bootOp s) := by
  simp [agentStep, bootStep, hack]

theorem launchWith_eq (d : ResetDraws) (e : Env) :
    State.launchWith d e = { State.resetWith d e with armed := true, ackEn := true } := rfl

/-- At launch the responder is armed, with nothing pending or running and acknowledgment already enabled. -/
theorem enabled_launchWith_iff (d : ResetDraws) (e : Env) (a : Agent) :
    enabled a (State.launchWith d e) = true ↔ a = .bus ∨ a = .main ∨ a = .pwm ∨ a = .rst := by
  rw [launchWith_eq]
  cases a <;> simp [enabled, State.resetWith]

theorem agentStep_launchWith_disabled (d : ResetDraws) (e : Env) {c : Choice} (hc : c = .isr ∨ c = .boot) :
    agentStep c (State.launchWith d e) = .next (State.launchWith d e) := by
  have hdisabled : ¬enabled c.agent (State.launchWith d e) = true := by
    obtain rfl | rfl := hc <;> simp [enabled_launchWith_iff, Choice.agent]
  exact agentStep_disabled (Bool.eq_false_iff.2 hdisabled)

/-- Settles O43: boot finds ACK_EN clear after reset; at launch BUS, MAIN and PWM each take their own step, and what is
not enabled takes none. -/
theorem launchStateEnabledSteps : Obligations.LaunchStateEnabledSteps := by
  intro d e
  have hread : canMainRead (State.launchWith d e) = true := (canMainRead_iff _).2 ⟨rfl, rfl⟩
  refine ⟨agentStep_boot rfl, launchWith_eq d e, fun _ => agentStep_launchWith_disabled d e,
    enabled_launchWith_iff d e, fun ev => ?_, ?_, ?_⟩
  · exact ⟨_, agentStep_bus_deliver ev rfl, rfl⟩
  · exact ⟨_, agentStep_main_read hread, rfl⟩
  · exact ⟨_, agentStep_pwm _, rfl⟩

end Sys2Proof.Machine
